-- ==== Sys2Proof/Word.lean ====
section
/-! DEFINITION. The bit vectors of the engine: bytes, 32-bit words, 16-byte blocks, 64-bit counters
(00_scope.md R8, R11, R12), and the four-word register group of 10_state.md R23. -/

namespace Sys2Proof

/-- One byte. -/
abbrev Byte := BitVec 8

/-- A 32-bit word: a register, a cipher word, a command word (R12, R21, R70). -/
abbrev Word := BitVec 32

/-- A 16-byte block, held as the number `int(B)` of R11: byte 0 is bits 127..120. -/
abbrev Block := BitVec 128

/-- A 64-bit byte counter (R9, R35). -/
abbrev Counter := BitVec 64

/-- Four words side by side: a 128-bit register group G0..G3 (R21, R23), or the four words the
cipher works on (R105, R106). -/
structure Quad where
  /-- word 0, bytes 0..3 of the block -/
  w0 : Word
  /-- word 1, bytes 4..7 of the block -/
  w1 : Word
  /-- word 2, bytes 8..11 of the block -/
  w2 : Word
  /-- word 3, bytes 12..15 of the block -/
  w3 : Word
deriving DecidableEq, Repr

end Sys2Proof
end

