-- ==== Sys2Proof/Syntax.lean ====
section
/-! DEFINITION. The ten commands of 30_encoding.md R72, one constructor per row of the opcode table.
Every command carries its LEN field, because decoding does not judge it (R80). -/

namespace Sys2Proof

/-- The direction of a message, the DIR bit of START (R70, R74): 0 encrypt, 1 decrypt. -/
inductive Direction where
  | encrypt
  | decrypt
deriving DecidableEq, Repr

/-- A decoded command with its LEN, a byte count (R71, R73), and for START its DIR (R74). -/
inductive Instr where
  /-- KEYSET, OP 0x01 (R108) -/
  | keyset (len : Nat)
  /-- NONCE, OP 0x02 (R142) -/
  | nonce (len : Nat)
  /-- START, OP 0x03 (R143) -/
  | start (len : Nat) (dir : Direction)
  /-- AAD, OP 0x04 (R126) -/
  | aad (len : Nat)
  /-- DATA, OP 0x05 (R146) -/
  | data (len : Nat)
  /-- FINAL, OP 0x06 (R163) -/
  | final (len : Nat)
  /-- VERIFY, OP 0x07 (R164) -/
  | verify (len : Nat)
  /-- ECB, OP 0x08 (R109) -/
  | ecb (len : Nat)
  /-- GMUL, OP 0x09 (R127) -/
  | gmul (len : Nat)
  /-- CLEAR, OP 0x0A (R167) -/
  | clear (len : Nat)
deriving DecidableEq, Repr

/-- The LEN field of a command. -/
def Instr.len : Instr → Nat
  | .keyset n => n
  | .nonce n => n
  | .start n _ => n
  | .aad n => n
  | .data n => n
  | .final n => n
  | .verify n => n
  | .ecb n => n
  | .gmul n => n
  | .clear n => n

end Sys2Proof
end

