-- ==== Sys2Proof/WellFormed.lean ====
section
/-! DEFINITION. Which commands a command word can hold. LEN is "an unsigned 8-bit number" (R70), so a
command is well formed when its LEN fits the field. Whether that LEN is legal for the command is not
a matter of form: it is decided when the command runs (R80, R201 step 3). -/

namespace Sys2Proof

/-- The LEN fits its 8-bit field (30_encoding.md R70). -/
abbrev WellFormed (i : Instr) : Prop := i.len < 256

end Sys2Proof
end

