-- ==== Sys2Proof/Decode.lean ====
section
/-! DEFINITION. Decoding of a command word, total and rejecting by name (30_encoding.md R70, R71,
R75, R80), and the encoder `enc(op, len, dir)` of R77. -/

namespace Sys2Proof

/-- Why a command word is illegal (R75). An illegal word still runs: it is rejected with USAGE_ERROR
(R80, R201 steps 1 and 2). -/
inductive DecodeError where
  /-- RSV, bits 31:17, is not zero -/
  | reservedBits
  /-- OP is 0x00 or 0x0B..0xFF -/
  | reservedOpcode
  /-- DIR is 1 in a command other than START -/
  | dirOutsideStart
deriving DecidableEq, Repr

/-- OP, `w[7:0]` (R71). -/
def opField (w : Word) : BitVec 8 := w.extractLsb' 0 8

/-- LEN, `zext_32(w[15:8])`, an unsigned number (R71). -/
def lenField (w : Word) : Nat := (w.extractLsb' 8 8).toNat

/-- DIR, `w[16]` (R71). -/
def dirField (w : Word) : Bool := w.getLsbD 16

/-- RSV, `w[31:17]` (R71). -/
def rsvField (w : Word) : BitVec 15 := w.extractLsb' 17 15

/-- The direction a DIR bit stands for (R70). -/
def directionOf (d : Bool) : Direction := if d then .decrypt else .encrypt

/-- The DIR bit of a direction (R70). -/
def directionBit : Direction → Bool
  | .encrypt => false
  | .decrypt => true

/-- The command an OP value names, given the other fields; `none` for a reserved OP (R72). -/
def commandOf (op : BitVec 8) (len : Nat) (dir : Bool) : Option Instr :=
  match op with
  | 0x01#8 => some (.keyset len)
  | 0x02#8 => some (.nonce len)
  | 0x03#8 => some (.start len (directionOf dir))
  | 0x04#8 => some (.aad len)
  | 0x05#8 => some (.data len)
  | 0x06#8 => some (.final len)
  | 0x07#8 => some (.verify len)
  | 0x08#8 => some (.ecb len)
  | 0x09#8 => some (.gmul len)
  | 0x0A#8 => some (.clear len)
  | _ => none

/-- R80's decoder: RSV first, then OP, then DIR outside START. -/
def decode (w : Word) : Except DecodeError Instr :=
  if rsvField w ≠ 0 then .error .reservedBits
  else
    match commandOf (opField w) (lenField w) (dirField w) with
    | none => .error .reservedOpcode
    | some i =>
      if dirField w ∧ opField w ≠ 0x03#8 then .error .dirOutsideStart else .ok i

/-- The OP value of a command (R72). -/
def opcodeOf : Instr → BitVec 8
  | .keyset _ => 0x01
  | .nonce _ => 0x02
  | .start _ _ => 0x03
  | .aad _ => 0x04
  | .data _ => 0x05
  | .final _ => 0x06
  | .verify _ => 0x07
  | .ecb _ => 0x08
  | .gmul _ => 0x09
  | .clear _ => 0x0A

/-- The DIR bit of a command: 0 outside START (R74). -/
def dirOf : Instr → Bool
  | .start _ d => directionBit d
  | .keyset _ | .nonce _ | .aad _ | .data _ | .final _ | .verify _ | .ecb _ | .gmul _ | .clear _ =>
    false

/-- `enc(op, len, dir) = dir << 16 | len << 8 | op` (R77), laid out as R70's fields, RSV zero. -/
def encode (i : Instr) : Word :=
  0#15 ++ BitVec.ofBool (dirOf i) ++ BitVec.ofNat 8 i.len ++ opcodeOf i

/-- The instruction the decoder reads from a table row's word: bit 0 of `w` is bit 0 of the command
word, and the bits from `nbits` up are 0. A command is one 32-bit word (R76). -/
def decodeTableWord (nbits w : Nat) : Option Instr :=
  (decode (BitVec.ofNat 32 (w % 2 ^ nbits))).toOption

end Sys2Proof
end

