-- ==== Sys2Proof/Config.lean ====
section
/-! DEFINITION. What an implementation fixes, and the free values. The cipher's constant tables are a
parameter of the model (00_scope.md R10, U10); their default values stand in Machine/Tables.lean. -/

namespace Sys2Proof

/-- The constant tables of the cipher: SBOX, FK and CK (R10, R38, R100). They are read-only state
fixed at manufacture, so a state carries them and no step changes them. -/
structure Tables where
  /-- the 256-entry substitution table -/
  sbox : Vector Byte 256
  /-- the four constants XORed into the key words -/
  fk   : Quad
  /-- the constant of each of the 32 key-schedule rounds -/
  ck   : Vector Word 32
deriving DecidableEq, Repr

namespace Config

/-- FREE VALUE. What the n-th read made while BUSY = 1 returns, before bit 0 of STATUS is set: "A read
of any other register returns an unspecified value" (70_reset_and_hazards.md R225, U6). It has no
body, so nothing can be proved of its value. Safe: log 3. -/
opaque busyRead : Nat → Word

end Config

end Sys2Proof
end

