-- ==== Sys2Proof/Machine/Blocks.lean ====
section
/-! DEFINITION. Bytes, words and blocks: the big-endian conventions of 00_scope.md R11 to R14 and
20_memory.md R54. -/

namespace Sys2Proof.Machine

/-- `rotl(x, n)` for 0 < n < 32 (R13). -/
def rotl (x : Word) (n : Nat) : Word := (x <<< n) ||| (x >>> (32 - n))

/-- A register group as a block: `be32(G0) || be32(G1) || be32(G2) || be32(G3)` (R14, R54). -/
def quadBlock (q : Quad) : Block := q.w0 ++ q.w1 ++ q.w2 ++ q.w3

/-- `load32(B, i)` for i = 0..3, big-endian (R12). -/
def load32 (b : Block) (i : Nat) : Word := b.extractLsb' (32 * (3 - i)) 32

/-- `words(B)`, which is also `G <- B` (R12, R14). -/
def blockQuad (b : Block) : Quad := ⟨load32 b 0, load32 b 1, load32 b 2, load32 b 3⟩

/-- Word `i % 4` of four words: the `k[i%4]` and `x[i%4]` of R105 and R106. -/
def quadGet (q : Quad) (i : Nat) : Word :=
  match i % 4 with
  | 0 => q.w0
  | 1 => q.w1
  | 2 => q.w2
  | _ => q.w3

/-- Replace word `i % 4` of four words. -/
def quadSet (q : Quad) (i : Nat) (x : Word) : Quad :=
  match i % 4 with
  | 0 => { q with w0 := x }
  | 1 => { q with w1 := x }
  | 2 => { q with w2 := x }
  | _ => { q with w3 := x }

/-- Wordwise XOR of two quads (R13). -/
def quadXor (p q : Quad) : Quad := ⟨p.w0 ^^^ q.w0, p.w1 ^^^ q.w1, p.w2 ^^^ q.w2, p.w3 ^^^ q.w3⟩

/-- The all-zero group. -/
def zeroQuad : Quad := ⟨0, 0, 0, 0⟩

/-- `B[i]`, byte i of a block: bits `127 − 8i .. 120 − 8i` (R11, R54). -/
def byteAt (b : Block) (i : Nat) : Byte := b.extractLsb' (8 * (15 - i)) 8

/-- `pad16(B[0..n))`: the first n bytes of a block, the bytes from n on zero (R11, R123). -/
def firstBytes (n : Nat) (b : Block) : Block := b &&& (BitVec.allOnes 128 <<< (8 * (16 - n)))

/-- The 16 bytes of a block, byte 0 first (R11). -/
def blockBytes (b : Block) : List Byte := (List.range 16).map (byteAt b)

/-- `pad16(b)` of a string of at most 16 bytes (R11); bytes beyond the sixteenth are not taken. -/
def padBlock (bs : List Byte) : Block :=
  (List.range 16).foldl (fun b i => b ||| (bs.getD i 0).setWidth 128 <<< (8 * (15 - i))) 0

/-- `be64(a) || be64(b)` (R12, R17). -/
def be64Pair (a b : BitVec 64) : Block := a ++ b

end Sys2Proof.Machine
end

