-- ==== Sys2Proof/Machine/Cipher.lean ====
section
/-! DEFINITION. BlockCipherCore: the round transform, the key schedule and single-block encryption of
40_cipher.md R102 to R106, over any constant tables. -/

namespace Sys2Proof.Machine

/-- `tau(x)`, the byte-wise substitution (R102). -/
def tau (t : Tables) (x : Word) : Word :=
  t.sbox[(x.extractLsb' 24 8).toFin] ++ t.sbox[(x.extractLsb' 16 8).toFin] ++
    t.sbox[(x.extractLsb' 8 8).toFin] ++ t.sbox[(x.extractLsb' 0 8).toFin]

/-- `L(s)`, the linear layer (R103). -/
def linear (s : Word) : Word := s ^^^ rotl s 2 ^^^ rotl s 10 ^^^ rotl s 18 ^^^ rotl s 24

/-- `T(x) = L(tau(x))`, one transform for the key schedule and for encryption (R104). -/
def roundT (t : Tables) (x : Word) : Word := linear (tau t x)

/-- The word a round computes at index i from the four words and its constant or round key:
`q[i%4] ^ T(q[(i+1)%4] ^ q[(i+2)%4] ^ q[(i+3)%4] ^ c)` (R105, R106). -/
def roundWord (t : Tables) (q : Quad) (i : Nat) (c : Word) : Word :=
  quadGet q i ^^^ roundT t (quadGet q (i + 1) ^^^ quadGet q (i + 2) ^^^ quadGet q (i + 3) ^^^ c)

/-- The rounds of the key schedule from round i on, one for each remaining CK word; the list of the
round keys they make (R105). -/
def scheduleRounds (t : Tables) : Nat → Quad → List Word → List Word
  | _, _, [] => []
  | i, k, c :: cs =>
    roundWord t k i c :: scheduleRounds t (i + 1) (quadSet k i (roundWord t k i c)) cs

theorem scheduleRounds_length (t : Tables) (i : Nat) (k : Quad) (cs : List Word) :
    (scheduleRounds t i k cs).length = cs.length := by
  induction cs generalizing i k with
  | nil => rfl
  | cons c cs ih => simp [scheduleRounds, ih]

/-- `KeySchedule(key) -> RK[0..31]` (R105). -/
def keySchedule (t : Tables) (key : Block) : Vector Word 32 :=
  ⟨(scheduleRounds t 0 (quadXor (blockQuad key) t.fk) t.ck.toList).toArray, by
    simp [scheduleRounds_length]⟩

/-- The rounds of encryption from round i on, one for each remaining round key (R106). -/
def encryptRounds (t : Tables) : Nat → Quad → List Word → Quad
  | _, x, [] => x
  | i, x, rk :: rks => encryptRounds t (i + 1) (quadSet x i (roundWord t x i rk)) rks

/-- The four words in reverse order, packed big-endian (R106). -/
def reversedBlock (x : Quad) : Block := x.w3 ++ x.w2 ++ x.w1 ++ x.w0

/-- `Encrypt(RK, in)` (R106). -/
def encrypt (t : Tables) (rk : Vector Word 32) (b : Block) : Block :=
  reversedBlock (encryptRounds t 0 (blockQuad b) rk.toList)

end Sys2Proof.Machine
end

