-- ==== Sys2Proof/Machine/GaloisHash.lean ====
section
/-! DEFINITION. GaloisHash: multiplication in GF(2^128) and the accumulation step, 41_ghash.md R120 to
R124. -/

namespace Sys2Proof.Machine

/-- One shift of V: right by one bit across the block, with 0xE1 XORed into byte 0 when the bit
shifted out was 1 (R121). -/
def shiftReduce (v : Block) : Block :=
  if v.getLsbD 0 then (v >>> 1) ^^^ (0xE1#128 <<< 120) else v >>> 1

/-- The last n iterations of the multiply loop, which read bits n−1 .. 0 of X; Z takes V before V is
shifted (R121). -/
def multiplyLoop (x : Block) : Nat → Block → Block → Block
  | 0, _, z => z
  | n + 1, v, z => multiplyLoop x n (shiftReduce v) (if x.getLsbD n then z ^^^ v else z)

/-- `Multiply(X, Y)`, bit-serial over the 128 bits of X from the most significant (R121). -/
def multiply (x y : Block) : Block := multiplyLoop x 128 y 0

/-- `Fold(S, b) = Multiply(S ^ pad16(b), H)`, for a block already padded (R123). -/
def fold (h s b : Block) : Block := multiply (s ^^^ b) h

end Sys2Proof.Machine
end

