-- ==== Sys2Proof/Machine/Counter.lean ====
section
/-! DEFINITION. CounterSequencer: the counter block of a data block, the derivation of J0, and the
splitting of a byte string into 16-byte chunks, 42_ctr.md R140, R144, R145. -/

namespace Sys2Proof.Machine

/-- `Ctr(J0, n)`: the last 4 bytes of J0 plus n modulo 2^32, no carry into the upper 96 bits (R144). -/
def ctr (j0 : Block) (n : Nat) : Block :=
  j0.extractLsb' 32 96 ++ (load32 j0 3 + BitVec.ofNat 32 n)

/-- `n = ctx.DBYTES div 16 + 1`, the index of the next data block (R145). -/
def blockIndex (dbytes : Counter) : Nat := dbytes.toNat / 16 + 1

/-- `0^64 || be64(8 · n)`, the nonce-length block (R140, R143). -/
def nonceLengthBlock (nbytes : Nat) : Block := be64Pair 0 (BitVec.ofNat 64 (8 * nbytes))

/-- `be64(8 · a) || be64(8 · d)`, the length block (R162). -/
def lengthBlock (abytes dbytes : Nat) : Block :=
  be64Pair (BitVec.ofNat 64 (8 * abytes)) (BitVec.ofNat 64 (8 * dbytes))

/-- `N || 00 00 00 01`, the direct J0 of a 12-byte nonce (R140, R143). -/
def directJ0 (n : BitVec 96) : Block := n ++ (1 : Word)

/-- The chunks of a byte string, 16 bytes each but the last, for at most `fuel` chunks. -/
def chunksUpTo : Nat → List Byte → List (List Byte)
  | 0, _ => []
  | _, [] => []
  | fuel + 1, b :: bs => (b :: bs).take 16 :: chunksUpTo fuel ((b :: bs).drop 16)

/-- "each chunk c, 16 bytes at a time (the last may be shorter)" (R140, R171). -/
def chunks (bs : List Byte) : List (List Byte) := chunksUpTo bs.length bs

/-- The GHASH of a section from accumulator a: one Fold for each chunk, zero-padded (R123, R140). -/
def foldChunks (h : Block) : Block → List (List Byte) → Block
  | a, [] => a
  | a, c :: cs => foldChunks h (fold h a (padBlock c)) cs

/-- `J0of(nonce)` of R140, the source's definition over a whole nonce. The engine computes it block by
block with NONCE and START (R142, R143). -/
def j0of (h : Block) (nonce : List Byte) : Block :=
  if nonce.length = 12 then directJ0 ((padBlock nonce).extractLsb' 32 96)
  else fold h (foldChunks h 0 (chunks nonce)) (nonceLengthBlock nonce.length)

end Sys2Proof.Machine
end

