-- ==== Sys2Proof/Machine/Tables.lean ====
section
/-! DEFINITION. The default instance of the cipher's constant tables, 40_cipher.md R101. The spec gives
these values as its own default, from general knowledge (D22, G1); they are what State.reset holds.
Every other statement ranges over all tables (R10, U10). PRESUMED, log 1. -/

namespace Sys2Proof.Machine

/-- SBOX[0x00..0x0F] (R101). -/
def sboxRow0 : List Byte :=
  [0xd6, 0x90, 0xe9, 0xfe, 0xcc, 0xe1, 0x3d, 0xb7, 0x16, 0xb6, 0x14, 0xc2, 0x28, 0xfb, 0x2c, 0x05]

/-- SBOX[0x10..0x1F] (R101). -/
def sboxRow1 : List Byte :=
  [0x2b, 0x67, 0x9a, 0x76, 0x2a, 0xbe, 0x04, 0xc3, 0xaa, 0x44, 0x13, 0x26, 0x49, 0x86, 0x06, 0x99]

/-- SBOX[0x20..0x2F] (R101). -/
def sboxRow2 : List Byte :=
  [0x9c, 0x42, 0x50, 0xf4, 0x91, 0xef, 0x98, 0x7a, 0x33, 0x54, 0x0b, 0x43, 0xed, 0xcf, 0xac, 0x62]

/-- SBOX[0x30..0x3F] (R101). -/
def sboxRow3 : List Byte :=
  [0xe4, 0xb3, 0x1c, 0xa9, 0xc9, 0x08, 0xe8, 0x95, 0x80, 0xdf, 0x94, 0xfa, 0x75, 0x8f, 0x3f, 0xa6]

/-- SBOX[0x40..0x4F] (R101). -/
def sboxRow4 : List Byte :=
  [0x47, 0x07, 0xa7, 0xfc, 0xf3, 0x73, 0x17, 0xba, 0x83, 0x59, 0x3c, 0x19, 0xe6, 0x85, 0x4f, 0xa8]

/-- SBOX[0x50..0x5F] (R101). -/
def sboxRow5 : List Byte :=
  [0x68, 0x6b, 0x81, 0xb2, 0x71, 0x64, 0xda, 0x8b, 0xf8, 0xeb, 0x0f, 0x4b, 0x70, 0x56, 0x9d, 0x35]

/-- SBOX[0x60..0x6F] (R101). -/
def sboxRow6 : List Byte :=
  [0x1e, 0x24, 0x0e, 0x5e, 0x63, 0x58, 0xd1, 0xa2, 0x25, 0x22, 0x7c, 0x3b, 0x01, 0x21, 0x78, 0x87]

/-- SBOX[0x70..0x7F] (R101). -/
def sboxRow7 : List Byte :=
  [0xd4, 0x00, 0x46, 0x57, 0x9f, 0xd3, 0x27, 0x52, 0x4c, 0x36, 0x02, 0xe7, 0xa0, 0xc4, 0xc8, 0x9e]

/-- SBOX[0x80..0x8F] (R101). -/
def sboxRow8 : List Byte :=
  [0xea, 0xbf, 0x8a, 0xd2, 0x40, 0xc7, 0x38, 0xb5, 0xa3, 0xf7, 0xf2, 0xce, 0xf9, 0x61, 0x15, 0xa1]

/-- SBOX[0x90..0x9F] (R101). -/
def sboxRow9 : List Byte :=
  [0xe0, 0xae, 0x5d, 0xa4, 0x9b, 0x34, 0x1a, 0x55, 0xad, 0x93, 0x32, 0x30, 0xf5, 0x8c, 0xb1, 0xe3]

/-- SBOX[0xA0..0xAF] (R101). -/
def sboxRowA : List Byte :=
  [0x1d, 0xf6, 0xe2, 0x2e, 0x82, 0x66, 0xca, 0x60, 0xc0, 0x29, 0x23, 0xab, 0x0d, 0x53, 0x4e, 0x6f]

/-- SBOX[0xB0..0xBF] (R101). -/
def sboxRowB : List Byte :=
  [0xd5, 0xdb, 0x37, 0x45, 0xde, 0xfd, 0x8e, 0x2f, 0x03, 0xff, 0x6a, 0x72, 0x6d, 0x6c, 0x5b, 0x51]

/-- SBOX[0xC0..0xCF] (R101). -/
def sboxRowC : List Byte :=
  [0x8d, 0x1b, 0xaf, 0x92, 0xbb, 0xdd, 0xbc, 0x7f, 0x11, 0xd9, 0x5c, 0x41, 0x1f, 0x10, 0x5a, 0xd8]

/-- SBOX[0xD0..0xDF] (R101). -/
def sboxRowD : List Byte :=
  [0x0a, 0xc1, 0x31, 0x88, 0xa5, 0xcd, 0x7b, 0xbd, 0x2d, 0x74, 0xd0, 0x12, 0xb8, 0xe5, 0xb4, 0xb0]

/-- SBOX[0xE0..0xEF] (R101). -/
def sboxRowE : List Byte :=
  [0x89, 0x69, 0x97, 0x4a, 0x0c, 0x96, 0x77, 0x7e, 0x65, 0xb9, 0xf1, 0x09, 0xc5, 0x6e, 0xc6, 0x84]

/-- SBOX[0xF0..0xFF] (R101). -/
def sboxRowF : List Byte :=
  [0x18, 0xf0, 0x7d, 0xec, 0x3a, 0xdc, 0x4d, 0x20, 0x79, 0xee, 0x5f, 0x3e, 0xd7, 0xcb, 0x39, 0x48]

/-- SBOX as a list, row after row (R101). -/
def sboxList : List Byte :=
  sboxRow0 ++ sboxRow1 ++ sboxRow2 ++ sboxRow3 ++ sboxRow4 ++ sboxRow5 ++ sboxRow6 ++ sboxRow7 ++
    sboxRow8 ++ sboxRow9 ++ sboxRowA ++ sboxRowB ++ sboxRowC ++ sboxRowD ++ sboxRowE ++ sboxRowF

theorem sboxList_length : sboxList.length = 256 := by decide +kernel

/-- `ck(n) = (7·n) % 256` (R101). -/
def ckByte (n : Nat) : Byte := BitVec.ofNat 8 (7 * n)

/-- `CK[i] = ck(4i) << 24 | ck(4i+1) << 16 | ck(4i+2) << 8 | ck(4i+3)` (R101). -/
def ckWord (i : Nat) : Word :=
  ckByte (4 * i) ++ ckByte (4 * i + 1) ++ ckByte (4 * i + 2) ++ ckByte (4 * i + 3)

/-- The default tables of R101. -/
def defaultTables : Tables :=
  { sbox := ⟨sboxList.toArray, by simpa using sboxList_length⟩
    fk := ⟨0xA3B1BAC6, 0x56AA3350, 0x677D9197, 0xB27022DC⟩
    ck := ⟨((List.range 32).map ckWord).toArray, by simp⟩ }

end Sys2Proof.Machine
end

