-- ==== Sys2Proof/Machine/State.lean ====
section
/-! DEFINITION. The state of the engine: every register and context field of 10_state.md R21 and R30,
the constant tables (R38), the platform parameter (R10), and the model's own three fields; the
reasons a step can stop; the state after reset (R39). -/

namespace Sys2Proof.Machine

/-- ctx.PHASE (10_state.md R27). The values 6 and 7 are never produced, so the type excludes them
(U3). -/
inductive Phase where
  | fresh
  | nonce
  | aad
  | data
  | finalized
  | failed
deriving DecidableEq, Repr

/-- ctx.ERR, the result of the last completed command (10_state.md R28). The values 5 to 7 are never
produced, so the type excludes them (U3). -/
inductive ErrCode where
  | none
  | invalidKeyLength
  | usageError
  | limitExceeded
  | authenticationFailure
deriving DecidableEq, Repr

/-- One host access to the bus: `MemRead(addr, n)` or `MemWrite(addr, n, v)` (R14, R50). `bytes` is the
width in bytes. A store's value is given as 32 bits, because a store of another width to the window
has no effect but the fault BusError (R53). -/
inductive Access where
  | read (addr bytes : Nat)
  | write (addr bytes : Nat) (value : Word)
deriving DecidableEq, Repr

/-- One turn of an agent: the host makes an access, the engine takes its step Complete if a command is
in progress (R20, R223), or the reset input is asserted (R220). -/
inductive Turn where
  | host (a : Access)
  | engine
  | reset
deriving DecidableEq, Repr

/-- The model faults of 60_exceptions.md R208. Each carries the access that caused it; the state is the
state before that access. -/
inductive Fault where
  /-- Raised by a host access to the window that is not 32 bits wide or not at a 4-byte-aligned offset
  (R53, U4). Safe: the spec gives a chip's behaviour as undefined. -/
  | busError (a : Access)
  /-- Raised by a host write to the window while BUSY = 1 (R224, U5). Safe: the spec gives a chip's
  behaviour as undefined. -/
  | hazardViolation (a : Access)
deriving DecidableEq, Repr

/-- The refusals. Every command of the table has its meaning, so none is raised. -/
inductive Refusal where
  /-- Raised by an arm of exec that has no meaning yet; no arm is such an arm. Safe. -/
  | notModelled (mnemonic : String)
deriving DecidableEq, Repr

/-- The state. Field by field as INVENTORY.md lists it. -/
structure State where
  /-- KEY0..KEY3 (R21, R25) -/
  key : Quad
  /-- DIN0..DIN3 (R21, R26) -/
  din : Quad
  /-- DOUT0..DOUT3 (R21, R36) -/
  dout : Quad
  /-- TAGIN0..TAGIN3 (R21, R26) -/
  tagin : Quad
  /-- TAGOUT0..TAGOUT3 (R21, R36) -/
  tagout : Quad
  /-- GMY0..GMY3 (R21, R26) -/
  gmy : Quad
  /-- ctx.RK[0..31], the round keys (R30, R31) -/
  rk : Vector Word 32
  /-- ctx.H, the hash subkey (R30, R32) -/
  h : Block
  /-- ctx.J0, the initial counter block (R30, R33) -/
  j0 : Block
  /-- ctx.S, the GHASH accumulator (R30, R34) -/
  acc : Block
  /-- ctx.NRAW, bytes 0..11 of the first nonce block (R30) -/
  nraw : BitVec 96
  /-- ctx.NBYTES, nonce bytes taken (R30, R35) -/
  nbytes : Counter
  /-- ctx.ABYTES, AAD bytes taken (R30, R35) -/
  abytes : Counter
  /-- ctx.DBYTES, data bytes taken (R30, R35) -/
  dbytes : Counter
  /-- ctx.DIR (R30, R42) -/
  dir : Direction
  /-- ctx.PHASE (R27, R30) -/
  phase : Phase
  /-- ctx.ERR (R28, R30) -/
  err : ErrCode
  /-- ctx.NCL, the nonce section is closed (R29, R30) -/
  ncl : Bool
  /-- ctx.ACL, the AAD section is closed (R29, R30) -/
  acl : Bool
  /-- ctx.DCL, the data section is closed (R29, R30) -/
  dcl : Bool
  /-- ctx.BUSY, a command is in progress (R30, R37) -/
  busy : Bool
  /-- ctx.LATCH, the command word being executed (R30, R37) -/
  latch : Word
  /-- SBOX, FK, CK: read-only state fixed at manufacture (R38); no step changes it -/
  tables : Tables
  /-- P_BASE, the bus address of offset 0x00 (R10, R50); no step changes it -/
  pBase : Nat
  /-- The model's own: the turns still to come, first one first (log 4) -/
  agenda : List Turn
  /-- The model's own: what the host's reads have returned, newest first (log 5) -/
  replies : List Word
  /-- The model's own: how many free values have been drawn (log 3) -/
  freeCount : Nat
deriving DecidableEq, Repr

/-- The round-key file at its reset value (R39). -/
def zeroKeys : Vector Word 32 := Vector.replicate 32 0

/-- The machine right after reset (R39, R220): every register and field 0, the tables at their default
instance (R101, log 1), P_BASE at the value of log 2, and nothing on the agenda. -/
def State.reset : State :=
  { key := zeroQuad, din := zeroQuad, dout := zeroQuad
    tagin := zeroQuad, tagout := zeroQuad, gmy := zeroQuad
    rk := zeroKeys, h := 0, j0 := 0, acc := 0, nraw := 0
    nbytes := 0, abytes := 0, dbytes := 0
    dir := .encrypt, phase := .fresh, err := .none
    ncl := false, acl := false, dcl := false
    busy := false, latch := 0
    tables := defaultTables, pBase := 0
    agenda := [], replies := [], freeCount := 0 }

end Sys2Proof.Machine
end

