-- ==== Sys2Proof/Machine/Flags.lean ====
section
/-! DEFINITION. The status fields: the numbers of PHASE, DIR and ERR, the STATUS word, the closed flags
and the limits (10_state.md R22, R27 to R29; 00_scope.md R9). -/

namespace Sys2Proof.Machine

/-- The value of STATUS.PHASE (R27). -/
def phaseCode : Phase → BitVec 3
  | .fresh => 0
  | .nonce => 1
  | .aad => 2
  | .data => 3
  | .finalized => 4
  | .failed => 5

/-- The value of STATUS.ERR (R28). -/
def errCode : ErrCode → BitVec 3
  | .none => 0
  | .invalidKeyLength => 1
  | .usageError => 2
  | .limitExceeded => 3
  | .authenticationFailure => 4

/-- The value of STATUS.DIR (R22). -/
def dirCode : Direction → BitVec 1
  | .encrypt => 0
  | .decrypt => 1

/-- A field's value at its place in the STATUS word. -/
def statusField {n : Nat} (v : BitVec n) (pos : Nat) : Word := v.setWidth 32 <<< pos

/-- `STATUS = BUSY | PHASE<<4 | DIR<<7 | ERR<<8 | NCL<<12 | ACL<<13 | DCL<<14` (R22). -/
def statusWord (s : State) : Word :=
  statusField (BitVec.ofBool s.busy) 0 ||| statusField (phaseCode s.phase) 4 |||
    statusField (dirCode s.dir) 7 ||| statusField (errCode s.err) 8 |||
    statusField (BitVec.ofBool s.ncl) 12 ||| statusField (BitVec.ofBool s.acl) 13 |||
    statusField (BitVec.ofBool s.dcl) 14

/-- An in-message phase: one of NONCE, AAD, DATA, FINALIZED (R16). -/
def inMessage : Phase → Bool
  | .nonce | .aad | .data | .finalized => true
  | .fresh | .failed => false

/-- A closed flag after a block of len bytes: set by a partial block, never cleared by one (R29). -/
def closedAfter (flag : Bool) (len : Nat) : Bool := flag || decide (len < 16)

/-- NONCE_MAX_BYTES = 2^61 − 1 (R9). -/
abbrev nonceMaxBytes : Nat := 2 ^ 61 - 1

/-- AAD_MAX_BYTES = 2^61 − 1 (R9). -/
abbrev aadMaxBytes : Nat := 2 ^ 61 - 1

/-- DATA_MAX_BYTES = 2^36 − 32 (R9). -/
abbrev dataMaxBytes : Nat := 2 ^ 36 - 32

/-- A byte counter after len more bytes. The limit checks of R201 keep it from wrapping (R35). -/
def countBytes (c : Counter) (len : Nat) : Counter := c + BitVec.ofNat 64 len

end Sys2Proof.Machine
end

