-- ==== Sys2Proof/Machine/Operands.lean ====
section
/-! DEFINITION. The operands of the commands (30_encoding.md R73, R76): the register groups as blocks,
the masked input block, and the legal LEN values of each command. -/

namespace Sys2Proof.Machine

/-- The block KEY (R14, R25). -/
def keyBlock (s : State) : Block := quadBlock s.key

/-- The block DIN (R14, R26). -/
def dinBlock (s : State) : Block := quadBlock s.din

/-- The block TAGIN (R14, R26). -/
def taginBlock (s : State) : Block := quadBlock s.tagin

/-- The block GMY (R14, R26). -/
def gmyBlock (s : State) : Block := quadBlock s.gmy

/-- `pad16(DIN[0..len))`: the bytes of DIN at or beyond LEN are ignored (R26, R123). -/
def dinBytes (len : Nat) (s : State) : Block := firstBytes len (dinBlock s)

/-- The key stream block of the next DATA: `Encrypt(RK, Ctr(J0, n))` with n from DBYTES (R145, R146). -/
def keystream (s : State) : Block := encrypt s.tables s.rk (ctr s.j0 (blockIndex s.dbytes))

/-- The output block of DATA: `(DIN[0..len) ^ KS[0..len)) || 0` (R146). -/
def dataOut (len : Nat) (s : State) : Block := firstBytes len (dinBlock s ^^^ keystream s)

/-- The ciphertext a DATA folds, zero-padded: the output when encrypting, the input when decrypting
(R146, D37). -/
def dataCiphertext (len : Nat) (s : State) : Block :=
  match s.dir with
  | .encrypt => dataOut len s
  | .decrypt => dinBytes len s

/-- S with the length block folded in (R162). -/
def finalAcc (s : State) : Block :=
  fold s.h s.acc (lengthBlock s.abytes.toNat s.dbytes.toNat)

/-- The full tag `Encrypt(RK, J0) ^ S`, S with the length block folded in (R162). -/
def fullTag (s : State) : Block := encrypt s.tables s.rk s.j0 ^^^ finalAcc s

/-- The J0 that START derives (R143). -/
def startJ0 (s : State) : Block :=
  if s.nbytes = 12 then directJ0 s.nraw
  else fold s.h s.acc (nonceLengthBlock s.nbytes.toNat)

/-- R201 step 3: the error of an illegal LEN, or none (R73). -/
def lenError : Instr → Option ErrCode
  | .keyset n => if n = 16 then none else some .invalidKeyLength
  | .nonce n | .aad n | .data n | .final n | .verify n =>
    if 1 ≤ n ∧ n ≤ 16 then none else some .usageError
  | .start n _ | .ecb n | .gmul n | .clear n => if n = 0 then none else some .usageError

end Sys2Proof.Machine
end

