-- ==== Sys2Proof/Machine/Ops.lean ====
section
/-! DEFINITION. The shared operations of the commands: the checks (60_exceptions.md R201), rejection
(R202: what this hardware does in place of taking an exception; it has no return from one, R206),
acceptance (R203), discarding the context, reset (70_reset_and_hazards.md R220), and issuing a command
(R223). -/

namespace Sys2Proof.Machine

/-- R201 step 4: the table of 43_aead.md R161. -/
def permitted (i : Instr) (s : State) : Bool :=
  match i with
  | .keyset _ => true
  | .nonce _ => decide (s.phase = .nonce) && !s.ncl
  | .start _ _ => decide (s.phase = .nonce) && decide (1 ≤ s.nbytes.toNat)
  | .aad _ => decide (s.phase = .aad) && !s.acl
  | .data _ => (decide (s.phase = .aad) || decide (s.phase = .data)) && !s.dcl
  | .final _ =>
    (decide (s.phase = .aad) || decide (s.phase = .data)) && decide (s.dir = .encrypt)
  | .verify _ =>
    (decide (s.phase = .aad) || decide (s.phase = .data)) && decide (s.dir = .decrypt)
  | .ecb _ => !decide (s.phase = .fresh)
  | .gmul _ => true
  | .clear _ => true

/-- R201 step 5: the command would pass its section's byte limit. -/
def overLimit (i : Instr) (s : State) : Bool :=
  match i with
  | .nonce n => decide (nonceMaxBytes < s.nbytes.toNat + n)
  | .aad n => decide (aadMaxBytes < s.abytes.toNat + n)
  | .data n => decide (dataMaxBytes < s.dbytes.toNat + n)
  | .keyset _ | .start _ _ | .final _ | .verify _ | .ecb _ | .gmul _ | .clear _ => false

/-- R201 steps 3 to 6 for a decoded command: the code of the first check that fails, or none. Steps 1
and 2 are the decoder's (R80). -/
def check (i : Instr) (s : State) : Option ErrCode :=
  match lenError i with
  | some e => some e
  | none =>
    if permitted i s then (if overLimit i s then some .limitExceeded else none)
    else some .usageError

/-- The message state to its reset value: everything of ctx that a KEYSET clears before it derives the
keys (40_cipher.md R108), with DOUT and TAGOUT (10_state.md R36). -/
def clearMessage (s : State) : State :=
  { s with
    j0 := 0, acc := 0, nraw := 0, nbytes := 0, abytes := 0, dbytes := 0
    ncl := false, acl := false, dcl := false, dir := .encrypt
    dout := zeroQuad, tagout := zeroQuad }

/-- Every ctx field (RK, H, J0, S, NRAW, counters, DIR, flags, PHASE) to its reset value, and KEY, DOUT
and TAGOUT to 0: the state change of a KEYSET rejected with INVALID_KEY_LENGTH (R202). -/
def discardContext (s : State) : State :=
  { clearMessage s with rk := zeroKeys, h := 0, phase := .fresh, key := zeroQuad }

/-- Rejection with code e (R202). INVALID_KEY_LENGTH is raised by KEYSET alone (R200), so the code
decides the branch. -/
def reject (e : ErrCode) (s : State) : State :=
  match e with
  | .invalidKeyLength => { discardContext s with err := .invalidKeyLength }
  | .none | .usageError | .limitExceeded | .authenticationFailure =>
    { s with phase := if inMessage s.phase then .failed else s.phase, err := e }

/-- Check, then reject, or run the command's rule with ERR set to NONE (R203, R223). A rule may still
write ERR itself: VERIFY on a mismatch. -/
def perform (i : Instr) (effect : State → State) (s : State) : State :=
  match check i s with
  | some e => reject e s
  | none => effect { s with err := .none }

/-- Every register and context field to the value of R39, LATCH with them: what CLEAR does (43_aead.md
R167, 70_reset_and_hazards.md R221, D21). BUSY is cleared when the command completes (R223). -/
def clearAll (s : State) : State :=
  { discardContext s with
    din := zeroQuad, tagin := zeroQuad, gmy := zeroQuad, err := .none, latch := 0 }

/-- The reset input is asserted: every register and field of R39 to 0; a command in progress is
abandoned; the tables and P_BASE stay (R38, R220). The agenda, the replies and the draws of free
values are the environment's and the model's, not the engine's, and stay (log 13). -/
def assertReset (s : State) : State := { clearAll s with busy := false }

/-- A write to CMD with BUSY = 0: the command is issued (R223). -/
def issue (w : Word) (s : State) : State := { s with latch := w, busy := true }

/-- The command has completed: BUSY is cleared (R223). -/
def finish (s : State) : State := { s with busy := false }

end Sys2Proof.Machine
end

