-- ==== Sys2Proof/Machine/AeadCommands.lean ====
section
/-! DEFINITION. The commands of AeadEngine: FINAL, VERIFY and CLEAR (43_aead.md R162 to R167). -/

namespace Sys2Proof.Machine

/-- R163: fold the length block and give the first len bytes of the tag, the rest 0. -/
def finalEffect (len : Nat) (s : State) : State :=
  { s with
    acc := finalAcc s
    tagout := blockQuad (firstBytes len (fullTag s))
    phase := .finalized }

/-- FINAL (R163). -/
def execFinal (len : Nat) (s : State) : Host.Outcome State Fault Refusal :=
  .next (perform (.final len) (finalEffect len) s)

/-- `T[0..len) = TAGIN[0..len)`, over exactly len bytes (R164). -/
def tagsMatch (len : Nat) (s : State) : Bool :=
  decide (firstBytes len (fullTag s) = firstBytes len (taginBlock s))

/-- R164: fold the length block and compare. TAGOUT is zeroed always, DOUT on a mismatch, which also
sets ERR to AUTHENTICATION_FAILURE. -/
def verifyEffect (len : Nat) (s : State) : State :=
  { s with
    acc := finalAcc s
    tagout := zeroQuad
    dout := if tagsMatch len s then s.dout else zeroQuad
    err := if tagsMatch len s then .none else .authenticationFailure
    phase := .finalized }

/-- VERIFY (R164). -/
def execVerify (len : Nat) (s : State) : Host.Outcome State Fault Refusal :=
  .next (perform (.verify len) (verifyEffect len) s)

/-- CLEAR (R167, R221). -/
def execClear (len : Nat) (s : State) : Host.Outcome State Fault Refusal :=
  .next (perform (.clear len) clearAll s)

end Sys2Proof.Machine
end

