-- ==== Sys2Proof/Machine/CipherCommands.lean ====
section
/-! DEFINITION. The commands of BlockCipherCore: KEYSET and ECB (40_cipher.md R108, R109). -/

namespace Sys2Proof.Machine

/-- R108: build RK and H from KEY and open a new context. -/
def keysetEffect (s : State) : State :=
  { clearMessage s with
    rk := keySchedule s.tables (keyBlock s)
    h := encrypt s.tables (keySchedule s.tables (keyBlock s)) 0
    phase := .nonce }

/-- KEYSET (R108). -/
def execKeyset (len : Nat) (s : State) : Host.Outcome State Fault Refusal :=
  .next (perform (.keyset len) keysetEffect s)

/-- R109: `DOUT <- Encrypt(ctx.RK, DIN)`. -/
def ecbEffect (s : State) : State :=
  { s with dout := blockQuad (encrypt s.tables s.rk (dinBlock s)) }

/-- ECB (R109). -/
def execEcb (len : Nat) (s : State) : Host.Outcome State Fault Refusal :=
  .next (perform (.ecb len) ecbEffect s)

end Sys2Proof.Machine
end

