-- ==== Sys2Proof/Machine/CounterCommands.lean ====
section
/-! DEFINITION. The commands of CounterSequencer: NONCE, START and DATA (42_ctr.md R142, R143, R146). -/

namespace Sys2Proof.Machine

/-- R142: take one block of the nonce; the first block's bytes 0..11 are kept in NRAW. -/
def nonceEffect (len : Nat) (s : State) : State :=
  { s with
    nraw := if s.nbytes = 0 then (dinBytes len s).extractLsb' 32 96 else s.nraw
    acc := fold s.h s.acc (dinBytes len s)
    nbytes := countBytes s.nbytes len
    ncl := closedAfter s.ncl len }

/-- NONCE (R142). -/
def execNonce (len : Nat) (s : State) : Host.Outcome State Fault Refusal :=
  .next (perform (.nonce len) (nonceEffect len) s)

/-- R143: finish J0, reset the accumulator, fix the direction, enter phase AAD. -/
def startEffect (d : Direction) (s : State) : State :=
  { s with j0 := startJ0 s, acc := 0, dir := d, phase := .aad }

/-- START (R143). -/
def execStart (len : Nat) (d : Direction) (s : State) : Host.Outcome State Fault Refusal :=
  .next (perform (.start len d) (startEffect d) s)

/-- R146: encrypt or decrypt one block and fold the ciphertext. -/
def dataEffect (len : Nat) (s : State) : State :=
  { s with
    acc := fold s.h s.acc (dataCiphertext len s)
    dout := blockQuad (dataOut len s)
    dbytes := countBytes s.dbytes len
    dcl := closedAfter s.dcl len
    phase := .data }

/-- DATA (R146). -/
def execData (len : Nat) (s : State) : Host.Outcome State Fault Refusal :=
  .next (perform (.data len) (dataEffect len) s)

end Sys2Proof.Machine
end

