-- ==== Sys2Proof/Machine/HashCommands.lean ====
section
/-! DEFINITION. The commands of GaloisHash: AAD and GMUL (41_ghash.md R126, R127). -/

namespace Sys2Proof.Machine

/-- R126: fold one block of associated data. -/
def aadEffect (len : Nat) (s : State) : State :=
  { s with
    acc := fold s.h s.acc (dinBytes len s)
    abytes := countBytes s.abytes len
    acl := closedAfter s.acl len }

/-- AAD (R126). -/
def execAad (len : Nat) (s : State) : Host.Outcome State Fault Refusal :=
  .next (perform (.aad len) (aadEffect len) s)

/-- R127: `DOUT <- Multiply(DIN, GMY)`. -/
def gmulEffect (s : State) : State :=
  { s with dout := blockQuad (multiply (dinBlock s) (gmyBlock s)) }

/-- GMUL (R127). -/
def execGmul (len : Nat) (s : State) : Host.Outcome State Fault Refusal :=
  .next (perform (.gmul len) gmulEffect s)

end Sys2Proof.Machine
end

