-- ==== Sys2Proof/Machine/Dispatch.lean ====
section
/-! DEFINITION. One arm per command (30_encoding.md R72). -/

namespace Sys2Proof.Machine

def exec (i : Instr) (s : State) : Host.Outcome State Fault Refusal :=
  match i with
  | .keyset len => Sys2Proof.Machine.execKeyset len s
  | .nonce len => Sys2Proof.Machine.execNonce len s
  | .start len dir => Sys2Proof.Machine.execStart len dir s
  | .aad len => Sys2Proof.Machine.execAad len s
  | .data len => Sys2Proof.Machine.execData len s
  | .final len => Sys2Proof.Machine.execFinal len s
  | .verify len => Sys2Proof.Machine.execVerify len s
  | .ecb len => Sys2Proof.Machine.execEcb len s
  | .gmul len => Sys2Proof.Machine.execGmul len s
  | .clear len => Sys2Proof.Machine.execClear len s

end Sys2Proof.Machine
end

