-- ==== Sys2Proof/Machine/Window.lean ====
section
/-! DEFINITION. The register window: which register stands at each offset, what a read returns, what a
write stores, and one host access (10_state.md R21; 20_memory.md R50 to R57; 70_reset_and_hazards.md
R223 to R225). -/

namespace Sys2Proof.Machine

/-- What an offset of the window names (R21). The index of a group's word is 0 to 3. -/
inductive Reg where
  | cmd
  | status
  | key (i : Nat)
  | din (i : Nat)
  | dout (i : Nat)
  | tagin (i : Nat)
  | tagout (i : Nat)
  | gmy (i : Nat)
  | nbytesLo
  | nbytesHi
  | abytesLo
  | abytesHi
  | dbytesLo
  | dbytesHi
  | reserved
deriving DecidableEq, Repr

/-- The register at an offset (R21, R51). -/
def regAt (off : Nat) : Reg :=
  match off with
  | 0x00 => .cmd
  | 0x04 => .status
  | 0x08 => .key 0
  | 0x0C => .key 1
  | 0x10 => .key 2
  | 0x14 => .key 3
  | 0x18 => .din 0
  | 0x1C => .din 1
  | 0x20 => .din 2
  | 0x24 => .din 3
  | 0x28 => .dout 0
  | 0x2C => .dout 1
  | 0x30 => .dout 2
  | 0x34 => .dout 3
  | 0x38 => .tagin 0
  | 0x3C => .tagin 1
  | 0x40 => .tagin 2
  | 0x44 => .tagin 3
  | 0x48 => .tagout 0
  | 0x4C => .tagout 1
  | 0x50 => .tagout 2
  | 0x54 => .tagout 3
  | 0x58 => .gmy 0
  | 0x5C => .gmy 1
  | 0x60 => .gmy 2
  | 0x64 => .gmy 3
  | 0x68 => .nbytesLo
  | 0x6C => .nbytesHi
  | 0x70 => .abytesLo
  | 0x74 => .abytesHi
  | 0x78 => .dbytesLo
  | 0x7C => .dbytesHi
  | _ => .reserved

/-- What a read returns while BUSY = 0: write-only registers and reserved offsets read 0 (R21, R51). -/
def readReg (r : Reg) (s : State) : Word :=
  match r with
  | .cmd => 0
  | .status => statusWord s
  | .key _ => 0
  | .din i => quadGet s.din i
  | .dout i => quadGet s.dout i
  | .tagin i => quadGet s.tagin i
  | .tagout i => quadGet s.tagout i
  | .gmy i => quadGet s.gmy i
  | .nbytesLo => s.nbytes.extractLsb' 0 32
  | .nbytesHi => s.nbytes.extractLsb' 32 32
  | .abytesLo => s.abytes.extractLsb' 0 32
  | .abytesHi => s.abytes.extractLsb' 32 32
  | .dbytesLo => s.dbytes.extractLsb' 0 32
  | .dbytesHi => s.dbytes.extractLsb' 32 32
  | .reserved => 0

/-- What a write does while BUSY = 0: a write to CMD issues a command (R223), a write to a read-only
register or a reserved offset is ignored (R21, R51, R57). -/
def writeReg (r : Reg) (v : Word) (s : State) : State :=
  match r with
  | .cmd => issue v s
  | .key i => { s with key := quadSet s.key i v }
  | .din i => { s with din := quadSet s.din i v }
  | .tagin i => { s with tagin := quadSet s.tagin i v }
  | .gmy i => { s with gmy := quadSet s.gmy i v }
  | .status | .dout _ | .tagout _ | .nbytesLo | .nbytesHi | .abytesLo | .abytesHi
  | .dbytesLo | .dbytesHi | .reserved => s

/-- The size of the window in bytes (R9, R50). -/
abbrev windowBytes : Nat := 0x100

/-- The bus address of an access. -/
def accessAddr : Access → Nat
  | .read addr _ => addr
  | .write addr _ _ => addr

/-- The width of an access in bytes. -/
def accessBytes : Access → Nat
  | .read _ n => n
  | .write _ n _ => n

/-- The access has a byte, and one of its bytes is a byte of the window (R50), also where it begins
before the window (log 8). -/
def touchesWindow (a : Access) (s : State) : Bool :=
  decide (0 < accessBytes a) && decide (s.pBase < accessAddr a + accessBytes a) &&
    decide (accessAddr a < s.pBase + windowBytes)

/-- A 32-bit access at a 4-byte-aligned offset of the window (R53). -/
def wellFormedAccess (a : Access) (s : State) : Bool :=
  decide (accessBytes a = 4) && decide (s.pBase ≤ accessAddr a) &&
    decide ((accessAddr a - s.pBase) % 4 = 0)

/-- What a read returns while BUSY = 1: bit 0 of STATUS is 1, and every other bit of every register is
a free value (R225, U6). -/
def busyValue (r : Reg) (s : State) : Word :=
  match r with
  | .status => Config.busyRead s.freeCount ||| 1
  | .cmd | .key _ | .din _ | .dout _ | .tagin _ | .tagout _ | .gmy _ | .nbytesLo | .nbytesHi
  | .abytesLo | .abytesHi | .dbytesLo | .dbytesHi | .reserved => Config.busyRead s.freeCount

/-- A read of a register: it changes nothing of the engine (R57). The value goes to the host. -/
def readAccess (r : Reg) (s : State) : State :=
  if s.busy then { s with replies := busyValue r s :: s.replies, freeCount := s.freeCount + 1 }
  else { s with replies := readReg r s :: s.replies }

/-- One host access. An access that touches no byte of the window does not reach the engine; one that
is not a whole aligned word of it faults (R53), a write while BUSY = 1 faults (R224). -/
def serve (a : Access) (s : State) : Host.Outcome State Fault Refusal :=
  if !touchesWindow a s then .next s
  else if !wellFormedAccess a s then .fault (.busError a)
  else
    match a with
    | .read addr _ => .next (readAccess (regAt (addr - s.pBase)) s)
    | .write addr _ v =>
      if s.busy then .fault (.hazardViolation a)
      else .next (writeReg (regAt (addr - s.pBase)) v s)

end Sys2Proof.Machine
end

