-- ==== Sys2Proof/Machine/Lifecycle.lean ====
section
/-! DEFINITION. The life of a command (70_reset_and_hazards.md R223): the engine's step Complete, and
one turn of the agenda. -/

namespace Sys2Proof.Machine

/-- Complete: the latched word is decoded; an illegal word is rejected with USAGE_ERROR (R80), a command
runs; then BUSY is cleared (R223). -/
def complete (s : State) : Host.Outcome State Fault Refusal :=
  match decode s.latch with
  | .error _ => .next (finish (reject .usageError s))
  | .ok i =>
    match exec i s with
    | .next t => .next (finish t)
    | .fault f => .fault f
    | .refused r => .refused r

/-- The engine's turn: Complete if a command is in progress, and otherwise it is idle and its state
persists (R214, R223). -/
def engineTurn (s : State) : Host.Outcome State Fault Refusal :=
  if s.busy then complete s else .next s

/-- One turn (R20, R220). -/
def takeTurn (t : Turn) (s : State) : Host.Outcome State Fault Refusal :=
  match t with
  | .host a => serve a s
  | .engine => engineTurn s
  | .reset => .next (assertReset s)

end Sys2Proof.Machine
end

