-- ==== Sys2Proof/Machine/Step.lean ====
section
/-! DEFINITION. The step: the next turn of the agenda; with nothing left on it the engine completes the
command it has, or stays idle (70_reset_and_hazards.md R223, R231; 60_exceptions.md R214). And how a
command is placed where the very next step runs it. -/

namespace Sys2Proof.Machine

/-- One step of the machine. -/
def step (s : State) : Host.Outcome State Fault Refusal :=
  match s.agenda with
  | [] => engineTurn s
  | t :: rest => takeTurn t { s with agenda := rest }

/-- s with the command word w issued, as a write to CMD issues it (R223), and the engine's turn next on
the agenda, so that the very next step completes it (log 12). Bits of w from nbits up are 0. -/
def State.withFetchWord (s : State) (nbits w : Nat) : State :=
  { issue (BitVec.ofNat 32 (w % 2 ^ nbits)) s with agenda := .engine :: s.agenda }

end Sys2Proof.Machine
end

