-- ==== Sys2Proof/Machine/HostDriver.lean ====
section
/-! DEFINITION. The host's side of the contract: the register sequences BLK, GET and DO (30_encoding.md
R79), the one-shot operations Encrypt and Decrypt (43_aead.md R171, R172), and the re-blocking of
streamed calls (R173). They run the engine's own accesses and its own step Complete; they are no part
of the step. -/

namespace Sys2Proof.Machine

/-- Why a host sequence stops: the engine reported an error, and is left in the state given; or the
model stopped on an access. -/
inductive HostError where
  | engineError (e : ErrCode) (s : State)
  | stopped
deriving DecidableEq, Repr

/-- `BLK G, b`: the four stores of a block to a register group (R79). -/
def writeGroup (g : Nat → Reg) (b : Block) (s : State) : State :=
  writeReg (g 3) (load32 b 3)
    (writeReg (g 2) (load32 b 2) (writeReg (g 1) (load32 b 1) (writeReg (g 0) (load32 b 0) s)))

/-- `GET G`: the four loads of a register group, concatenated big-endian (R79). -/
def readGroup (g : Nat → Reg) (s : State) : Block :=
  readReg (g 0) s ++ readReg (g 1) s ++ readReg (g 2) s ++ readReg (g 3) s

/-- R77's number `dir << 16 | len << 8 | op`, for a LEN of any size: a host may ask for a tagLen that its
8-bit field cannot hold (R171, R172). -/
def commandNumber (i : Instr) : Nat :=
  (dirOf i).toNat <<< 16 ||| i.len <<< 8 ||| (opcodeOf i).toNat

/-- The word a host writes to CMD for a command: R77's number as it stands, so that a tagLen of 256 or
more reaches DIR and RSV and the word is illegal, and the sequence ends in UsageError (D12, R165). A
number beyond 32 bits is no word at all: there the model writes the illegal word of all ones, with the
same outcome. DESIGN CHOICE, log 19. -/
def commandWord (i : Instr) : Word :=
  if commandNumber i < 2 ^ 32 then BitVec.ofNat 32 (commandNumber i) else BitVec.allOnes 32

/-- `DO <OP>`: write the command word to CMD and wait for completion (R79). -/
def doCommand (i : Instr) (s : State) : Host.Outcome State Fault Refusal :=
  complete (writeReg .cmd (commandWord i) s)

/-- `DO <OP>`, then read ERR and stop if it is not NONE (R171). -/
def doChecked (i : Instr) (s : State) : Except HostError State :=
  match doCommand i s with
  | .next t => if t.err = .none then .ok t else .error (.engineError t.err t)
  | .fault _ => .error .stopped
  | .refused _ => .error .stopped

/-- "for each 16-byte chunk c: BLK DIN, c ; DO <OP> len=|c|" (R171). -/
def feedChunks (cmd : Nat → Instr) : List (List Byte) → State → Except HostError State
  | [], s => .ok s
  | c :: cs, s =>
    match doChecked (cmd c.length) (writeGroup .din (padBlock c) s) with
    | .error e => .error e
    | .ok t => feedChunks cmd cs t

/-- The DATA chunks of R171, with `GET DOUT -> o` and `o[0..|c|)` gathered after each. -/
def feedData : List (List Byte) → State → Except HostError (List Byte × State)
  | [], s => .ok ([], s)
  | c :: cs, s =>
    match doChecked (.data c.length) (writeGroup .din (padBlock c) s) with
    | .error e => .error e
    | .ok t =>
      match feedData cs t with
      | .error e => .error e
      | .ok (out, u) => .ok ((blockBytes (readGroup .dout t)).take c.length ++ out, u)

/-- `Init` as R171 splits it: BLK KEY, KEYSET, the NONCE chunks, START. -/
def openMessage (key : Block) (nonce : List Byte) (d : Direction) (s : State) :
    Except HostError State :=
  match doChecked (.keyset 16) (writeGroup .key key s) with
  | .error e => .error e
  | .ok t =>
    match feedChunks .nonce (chunks nonce) t with
    | .error e => .error e
    | .ok u => doChecked (.start 0 d) u

/-- `Init`, `ProcessAad`, `ProcessData`: everything before the tag (R171, R172). -/
def processMessage (key : Block) (nonce aad text : List Byte) (d : Direction) (s : State) :
    Except HostError (List Byte × State) :=
  match openMessage key nonce d s with
  | .error e => .error e
  | .ok t =>
    match feedChunks .aad (chunks aad) t with
    | .error e => .error e
    | .ok u => feedData (chunks text) u

/-- `Encrypt(key, nonce, aad, plaintext, tagLen) -> (ciphertext, tag)`, with the state it leaves
(R171). A tagLen of 256 or more is UsageError, as every tagLen outside 1 to 16 is (commandWord,
log 19). -/
def encryptMessage (key : Block) (nonce aad plaintext : List Byte) (tagLen : Nat) (s : State) :
    Except HostError (List Byte × List Byte × State) :=
  match processMessage key nonce aad plaintext .encrypt s with
  | .error e => .error e
  | .ok (ciphertext, t) =>
    match doChecked (.final tagLen) t with
    | .error e => .error e
    | .ok u => .ok (ciphertext, (blockBytes (readGroup .tagout u)).take tagLen, u)

/-- `Decrypt(key, nonce, aad, ciphertext, tag, tagLen) -> plaintext | AuthenticationFailure`, with the
state it leaves (R172). On a failure no candidate byte is returned: the host's duty to zero its buffer
before any other effect. A tagLen of 256 or more is UsageError (commandWord, log 19). -/
def decryptMessage (key : Block) (nonce aad ciphertext tag : List Byte) (tagLen : Nat) (s : State) :
    Except HostError (List Byte × State) :=
  match processMessage key nonce aad ciphertext .decrypt s with
  | .error e => .error e
  | .ok (plaintext, t) =>
    match doChecked (.verify tagLen) (writeGroup .tagin (padBlock tag) t) with
    | .error e => .error e
    | .ok u => .ok (plaintext, u)

/-- One streamed call: the whole blocks that the bytes kept back and the call's bytes make, and the
bytes kept back for the next call (R173). -/
def streamCall (held bytes : List Byte) : List (List Byte) × List Byte :=
  (chunks ((held ++ bytes).take (16 * ((held ++ bytes).length / 16))),
    (held ++ bytes).drop (16 * ((held ++ bytes).length / 16)))

/-- The blocks a sequence of streamed calls issues, the kept-back bytes last: only the last block of
the section may have fewer than 16 bytes (R173, R228). -/
def streamBlocks : List Byte → List (List Byte) → List (List Byte)
  | held, [] => if held = [] then [] else [held]
  | held, call :: calls =>
    (streamCall held call).1 ++ streamBlocks (streamCall held call).2 calls

end Sys2Proof.Machine
end

