-- ==== Sys2Proof/Machine/Message.lean ====
section
/-! DEFINITION. The source's functions over a whole message, with no engine in them: the counter-mode
ciphertext (42_ctr.md R144, R145), the GHASH of the sections in their order (41_ghash.md R125) and the
full tag (43_aead.md R162). The statements compare the engine's command sequences with them. -/

namespace Sys2Proof.Machine

/-- The chunks of a text XORed with the keystream of the blocks n, n+1, …; a partial chunk takes only
its own number of keystream bytes (R144 to R146). -/
def ctrChunks (t : Tables) (rk : Vector Word 32) (j0 : Block) : Nat → List (List Byte) → List (List Byte)
  | _, [] => []
  | n, c :: cs =>
    List.zipWith (· ^^^ ·) c (blockBytes (encrypt t rk (ctr j0 n))) :: ctrChunks t rk j0 (n + 1) cs

/-- The hash subkey of a key (R108, R110). -/
def subkey (t : Tables) (key : Block) : Block := encrypt t (keySchedule t key) 0

/-- The ciphertext chunks of a message under a key and a nonce: the first data block is n = 1 (R145). -/
def messageChunks (t : Tables) (key : Block) (nonce plaintext : List Byte) : List (List Byte) :=
  ctrChunks t (keySchedule t key) (j0of (subkey t key) nonce) 1 (chunks plaintext)

/-- The full tag of a message: AAD, ciphertext and the length block folded from zero, masked with
`Encrypt(RK, J0)` (R125, R162). -/
def messageTag (t : Tables) (key : Block) (nonce aad : List Byte) (cs : List (List Byte))
    (dataLength : Nat) : Block :=
  encrypt t (keySchedule t key) (j0of (subkey t key) nonce) ^^^
    fold (subkey t key)
      (foldChunks (subkey t key) (foldChunks (subkey t key) 0 (chunks aad)) cs)
      (lengthBlock aad.length dataLength)

end Sys2Proof.Machine
end

