-- ==== Sys2Proof/Safety.lean ====
section
/-! DEFINITION. What a good state and a safe turn are, in the terms the statements use: the invariants of
10_state.md R40, the relation of hash subkey and round keys (R32, R110), and the turns that respect
the register contract (R53, R224). -/

namespace Sys2Proof.Machine

/-- Everything of the context that R40's third point says is zero in FRESH. -/
def contextZero (s : State) : Prop :=
  s.rk = zeroKeys ∧ s.h = 0 ∧ s.j0 = 0 ∧ s.acc = 0 ∧ s.nbytes = 0 ∧ s.abytes = 0 ∧ s.dbytes = 0 ∧
    s.dir = .encrypt ∧ s.ncl = false ∧ s.acl = false ∧ s.dcl = false

/-- The invariants of 10_state.md R40, point by point. -/
structure ContextInvariant (s : State) : Prop where
  /-- `ctx.DBYTES % 16 = 0` unless DCL = 1 -/
  dataWhole : s.dcl = false → s.dbytes.toNat % 16 = 0
  /-- likewise for ABYTES with ACL -/
  aadWhole : s.acl = false → s.abytes.toNat % 16 = 0
  /-- likewise for NBYTES with NCL -/
  nonceWhole : s.ncl = false → s.nbytes.toNat % 16 = 0
  /-- `ctx.NBYTES ≤ 2^61 − 1` -/
  nonceBound : s.nbytes.toNat ≤ 2 ^ 61 - 1
  /-- `ctx.ABYTES ≤ 2^61 − 1` -/
  aadBound : s.abytes.toNat ≤ 2 ^ 61 - 1
  /-- `ctx.DBYTES ≤ 2^36 − 32` -/
  dataBound : s.dbytes.toNat ≤ 2 ^ 36 - 32
  /-- PHASE = FRESH implies RK, H, J0, S, the counters, DIR and the flags are all zero -/
  freshZero : s.phase = .fresh → contextZero s
  /-- PHASE ∈ {AAD, DATA, FINALIZED} implies NBYTES ≥ 1 -/
  nonceTaken : s.phase = .aad ∨ s.phase = .data ∨ s.phase = .finalized → 1 ≤ s.nbytes.toNat
  /-- PHASE = NONCE implies ABYTES = DBYTES = 0, DIR = 0, J0 = 0^128 -/
  nonceStart : s.phase = .nonce →
    s.abytes = 0 ∧ s.dbytes = 0 ∧ s.dir = .encrypt ∧ s.j0 = 0

/-- Outside FRESH the hash subkey is the encryption of the zero block under the round keys (R32, R108,
R110). -/
def SubkeyInvariant (s : State) : Prop :=
  s.phase ≠ .fresh → s.h = encrypt s.tables s.rk 0

/-- The next turn keeps the register contract: it is no access to the window of a wrong form (R53), and
no write to the window while BUSY = 1 (R224). -/
def safeTurn (t : Turn) (s : State) : Bool :=
  match t with
  | .host a =>
    !touchesWindow a s ||
      (wellFormedAccess a s &&
        match a with
        | .read _ _ => true
        | .write _ _ _ => !s.busy)
  | .engine => true
  | .reset => true

/-- Two states agree on everything the host can read: they may differ only in KEY, RK, H,
J0, S, NRAW and LATCH (R41, R52), and in the turns and replies of the environment. -/
def sameReadable (s t : State) : Prop :=
  s.din = t.din ∧ s.dout = t.dout ∧ s.tagin = t.tagin ∧ s.tagout = t.tagout ∧ s.gmy = t.gmy ∧
    s.nbytes = t.nbytes ∧ s.abytes = t.abytes ∧ s.dbytes = t.dbytes ∧ s.dir = t.dir ∧
    s.phase = t.phase ∧ s.err = t.err ∧ s.ncl = t.ncl ∧ s.acl = t.acl ∧ s.dcl = t.dcl ∧
    s.busy = t.busy

/-- f is the round transform of 40_cipher.md R102 to R104, spelled out: y has the S-box's byte for each
byte of x, and f x is y XORed with its rotations by 2, 10, 18 and 24. -/
def IsRoundTransform (t : Tables) (f : Word → Word) : Prop :=
  ∀ x : Word, ∃ y : Word,
    (∀ k : Fin 4, y.extractLsb' (8 * k) 8 = t.sbox[(x.extractLsb' (8 * k) 8).toFin]) ∧
    f x = y ^^^ y.rotateLeft 2 ^^^ y.rotateLeft 10 ^^^ y.rotateLeft 18 ^^^ y.rotateLeft 24

/-- The table of 43_aead.md R161 cell by cell: may the command with this OP run in this state? -/
def permittedTable (op : Nat) (s : State) : Bool :=
  match op, s.phase with
  | 1, _ => true
  | 2, .nonce => !s.ncl
  | 3, .nonce => decide (1 ≤ s.nbytes.toNat)
  | 4, .aad => !s.acl
  | 5, .aad => !s.dcl
  | 5, .data => !s.dcl
  | 6, .aad => decide (s.dir = .encrypt)
  | 6, .data => decide (s.dir = .encrypt)
  | 7, .aad => decide (s.dir = .decrypt)
  | 7, .data => decide (s.dir = .decrypt)
  | 8, .fresh => false
  | 8, _ => true
  | 9, _ => true
  | 10, _ => true
  | _, _ => false

/-- `Check(w)` of 60_exceptions.md R201, line by line over the fields of the word read as a number. -/
def wordCheck (w : Word) (s : State) : Option ErrCode :=
  let op := w.toNat % 256
  let len := w.toNat / 256 % 256
  let dir := w.toNat / 65536 % 2
  let rsv := w.toNat / 131072
  if rsv ≠ 0 ∨ ¬(1 ≤ op ∧ op ≤ 10) then some .usageError
  else if dir = 1 ∧ op ≠ 3 then some .usageError
  else if op = 1 ∧ len ≠ 16 then some .invalidKeyLength
  else if (op = 2 ∨ op = 4 ∨ op = 5 ∨ op = 6 ∨ op = 7) ∧ ¬(1 ≤ len ∧ len ≤ 16) then
    some .usageError
  else if (op = 3 ∨ op = 8 ∨ op = 9 ∨ op = 10) ∧ len ≠ 0 then some .usageError
  else if permittedTable op s = false then some .usageError
  else if op = 2 ∧ 2 ^ 61 - 1 < s.nbytes.toNat + len then some .limitExceeded
  else if op = 4 ∧ 2 ^ 61 - 1 < s.abytes.toNat + len then some .limitExceeded
  else if op = 5 ∧ 2 ^ 36 - 32 < s.dbytes.toNat + len then some .limitExceeded
  else none

/-- What a rejection other than INVALID_KEY_LENGTH leaves (60_exceptions.md R202): ERR holds the code, an
in-message phase becomes FAILED, everything else keeps its value. -/
def failMessage (e : ErrCode) (s : State) : State :=
  { s with
    err := e
    phase :=
      match s.phase with
      | .fresh => .fresh
      | .nonce | .aad | .data | .finalized | .failed => .failed }

/-- The phase an accepted command moves to, from the table of 43_aead.md R160. -/
def acceptedPhase (i : Instr) (p : Phase) : Phase :=
  match i with
  | .keyset _ => .nonce
  | .clear _ => .fresh
  | .nonce _ => .nonce
  | .start _ _ => .aad
  | .aad _ => .aad
  | .data _ => .data
  | .final _ => .finalized
  | .verify _ => .finalized
  | .ecb _ => p
  | .gmul _ => p

/-- The bus address of an offset of the window (R50). -/
def windowAddr (s : State) (off : Nat) : Nat := s.pBase + off

end Sys2Proof.Machine
end

