-- ==== Sys2Proof/Certificates/Slice0/Obligations.lean ====
section
/-! DEFINITION. The statements for the provers. A statement's docstring names the rule of spec/ it
formalises; "model's choice" marks a clause that the spec does not force, with its log entry. -/

section Encoding

open Sys2Proof Sys2Proof.Machine

/-- R77, R80: the decoder reads every well-formed command back from its encoding, with every LEN from 0
to 255 and both directions of START. -/
def Obligations.DecodeOfEncodeIsTheCommand : Prop :=
  ∀ i : Instr, WellFormed i → decode (encode i) = .ok i

/-- R77, R80: a word that decodes is the encoding of what it decodes to, so no bit of a legal word is
dropped, and its LEN fits the field. -/
def Obligations.EncodeOfDecodeIsTheWord : Prop :=
  ∀ (w : Word) (i : Instr), decode w = .ok i → encode i = w ∧ WellFormed i

/-- R80: decoding is total, word by word as its outline says, the fields read as numbers; and an illegal
word executes as a USAGE_ERROR rejection. -/
def Obligations.EveryWordDecodesOrIsIllegal : Prop :=
  ∀ w : Word,
    (w.toNat / 131072 ≠ 0 ∨ ¬(1 ≤ w.toNat % 256 ∧ w.toNat % 256 ≤ 10) →
      ∃ e, decode w = .error e) ∧
    (w.toNat / 65536 % 2 = 1 → w.toNat % 256 ≠ 3 → ∃ e, decode w = .error e) ∧
    (w.toNat / 131072 = 0 → 1 ≤ w.toNat % 256 → w.toNat % 256 ≤ 10 →
      (w.toNat / 65536 % 2 = 1 → w.toNat % 256 = 3) →
      ∃ i, decode w = .ok i ∧ (opcodeOf i).toNat = w.toNat % 256 ∧
        i.len = w.toNat / 256 % 256 ∧ (dirOf i).toNat = w.toNat / 65536 % 2) ∧
    (∀ (e : DecodeError) (s : State), decode w = .error e → s.latch = w →
      complete s = .next { failMessage .usageError s with busy := false })

/-- R77: `enc(op, len, dir) = dir << 16 | len << 8 | op`, and the legal words it lists. -/
def Obligations.EncodingFunctionAndLegalWords : Prop :=
  (∀ i : Instr, WellFormed i →
    (encode i).toNat = (dirOf i).toNat <<< 16 ||| i.len <<< 8 ||| (opcodeOf i).toNat) ∧
  encode (.keyset 16) = 0x00001001 ∧
  (∀ l : Nat, 1 ≤ l → l ≤ 16 →
    encode (.nonce l) = BitVec.ofNat 32 (0x100 * l + 0x02) ∧
    encode (.aad l) = BitVec.ofNat 32 (0x100 * l + 0x04) ∧
    encode (.data l) = BitVec.ofNat 32 (0x100 * l + 0x05) ∧
    encode (.final l) = BitVec.ofNat 32 (0x100 * l + 0x06) ∧
    encode (.verify l) = BitVec.ofNat 32 (0x100 * l + 0x07)) ∧
  encode (.aad 8) = 0x00000804 ∧ encode (.data 16) = 0x00001005 ∧
  encode (.start 0 .encrypt) = 0x00000003 ∧ encode (.start 0 .decrypt) = 0x00010003 ∧
  encode (.ecb 0) = 0x00000008 ∧ encode (.gmul 0) = 0x00000009 ∧ encode (.clear 0) = 0x0000000A

/-- Sanity: a few words written out from R70 and R77 decode to the commands they stand for. -/
def Obligations.WrittenOutWordsDecode : Prop :=
  decode 0b00000000000000000001000000000001#32 = .ok (.keyset 16) ∧
  decode 0b00000000000000000000110000000010#32 = .ok (.nonce 12) ∧
  decode 0b00000000000000010000000000000011#32 = .ok (.start 0 .decrypt) ∧
  decode 0b00000000000000000000100000000100#32 = .ok (.aad 8) ∧
  decode 0b00000000000000000000010000000111#32 = .ok (.verify 4) ∧
  decode 0b00000000000000000000000000001010#32 = .ok (.clear 0)

end Encoding

section Step

open Sys2Proof Sys2Proof.Machine

/-- R223: where a command is in progress and the engine moves next (its turn stands first on the agenda,
or nothing does), the step at a state whose latched word decodes to a well-formed command is exec of
that command, and then BUSY is cleared. That the agenda says who moves next is the model's (log 4). -/
def Obligations.StepRunsTheDecodedCommand : Prop :=
  ∀ (s : State) (i : Instr) (rest : List Turn),
    s.busy = true → (s.agenda = [] ∧ rest = [] ∨ s.agenda = .engine :: rest) →
    decode s.latch = .ok i → WellFormed i →
    (∀ t, exec i { s with agenda := rest } = .next t → step s = .next { t with busy := false }) ∧
    (∀ f, exec i { s with agenda := rest } = .fault f → step s = .fault f) ∧
    (∀ r, exec i { s with agenda := rest } = .refused r → step s = .refused r)

/-- R208, with R53 and R224: the step never refuses; it faults exactly on an access to the window of a
wrong form (BusError) and on a well-formed write while BUSY = 1 (HazardViolation); and in every
other case it answers a next state. Model's choice: a malformed write while busy is a BusError (log
7), an access that begins before the window and reaches into it is one too, and an access none of
whose bytes lies in the window does nothing (log 8). -/
def Obligations.StepStopsOnlyOnABrokenContract : Prop :=
  ∀ s : State,
    (∀ r, step s ≠ .refused r) ∧
    (∀ a, step s = .fault (.busError a) ↔
      ∃ rest, s.agenda = .host a :: rest ∧ touchesWindow a s = true ∧
        wellFormedAccess a s = false) ∧
    (∀ a, step s = .fault (.hazardViolation a) ↔
      ∃ rest addr n v, s.agenda = .host a :: rest ∧ a = .write addr n v ∧
        touchesWindow a s = true ∧ wellFormedAccess a s = true ∧ s.busy = true) ∧
    ((∃ t, step s = .next t) ↔ ∀ tn rest, s.agenda = tn :: rest → safeTurn tn s = true)

/-- R39, R220: after reset every register and field holds 0, in State.reset and after the reset input
in any state, also with a command in progress, which has no effect then; the tables keep their values;
every offset of the window reads 0. -/
def Obligations.ResetValuesAreZero : Prop :=
  (∀ s : State, s = State.reset ∨ (∃ u rest, u.agenda = .reset :: rest ∧ step u = .next s) →
    s.key = ⟨0, 0, 0, 0⟩ ∧ s.din = ⟨0, 0, 0, 0⟩ ∧ s.dout = ⟨0, 0, 0, 0⟩ ∧
    s.tagin = ⟨0, 0, 0, 0⟩ ∧ s.tagout = ⟨0, 0, 0, 0⟩ ∧ s.gmy = ⟨0, 0, 0, 0⟩ ∧
    (∀ n : Fin 32, s.rk[n] = 0) ∧ s.h = 0 ∧ s.j0 = 0 ∧ s.acc = 0 ∧ s.nraw = 0 ∧
    s.nbytes = 0 ∧ s.abytes = 0 ∧ s.dbytes = 0 ∧ s.dir = .encrypt ∧ s.phase = .fresh ∧
    s.err = .none ∧ s.ncl = false ∧ s.acl = false ∧ s.dcl = false ∧ s.busy = false ∧
    s.latch = 0 ∧ statusWord s = 0 ∧ ∀ off, readReg (regAt off) s = 0) ∧
  ∀ (u : State) (rest : List Turn), u.agenda = .reset :: rest →
    ∃ t, step u = .next t ∧ t.tables = u.tables

/-- R231, with R16, R220 and R223: an issued command completes at the engine's turn, whatever accesses the
host makes before it within the register contract, and also with no turn of the engine on the agenda:
the run of those turns ends with BUSY = 0 in the state that Complete gives straight away, but for what
the host's reads added to the model's own replies and free values. Nothing is asked of the turns after
the engine's. Where a reset comes first, the command is abandoned instead. That the agenda says who
moves next, and that the engine moves when it is used up, is the model's (log 4). -/
def Obligations.EveryIssuedCommandCompletes : Prop :=
  ∀ (s : State) (before rest : List Turn), s.busy = true →
    (∀ tn ∈ before, ∃ a, tn = .host a ∧ safeTurn tn s = true) →
    (s.agenda = before ∧ rest = [] ∨ s.agenda = before ++ .engine :: rest →
      ∃ t reads drawn, complete { s with agenda := rest } = .next t ∧ t.busy = false ∧
        Sys2Proof.core.run (before.length + 1) s =
          .next { t with replies := reads, freeCount := drawn }) ∧
    (s.agenda = before ++ .reset :: rest →
      ∃ t, Sys2Proof.core.run (before.length + 1) s = .next t ∧ t.busy = false ∧
        t.phase = .fresh ∧ t.err = .none)

/-- R223 and R60: a write of w to CMD with BUSY = 0, then the engine's turn, then a read of STATUS: the
command word is latched, the command's whole effect is applied in one step, and the read returns the
completed command's STATUS, with bit 0 clear. -/
def Obligations.CommandLifecycle : Prop :=
  ∀ (s : State) (w : Word) (rest : List Turn), s.busy = false →
    s.agenda = .host (.write (windowAddr s 0x00) 4 w) :: .engine ::
      .host (.read (windowAddr s 0x04) 4) :: rest →
    ∃ t, complete { s with agenda := .host (.read (windowAddr s 0x04) 4) :: rest
                           latch := w, busy := true } = .next t ∧
      t.busy = false ∧ (statusWord t).getLsbD 0 = false ∧
      Sys2Proof.core.run 3 s = .next { t with agenda := rest, replies := statusWord t :: s.replies }

end Step

section Window

open Sys2Proof Sys2Proof.Machine

/-- R53, R208: an access to the window that is not 32 bits wide at an offset that is a multiple of 4
raises BusError and changes nothing: the step answers the fault and no state. The access is given by
its offset in the window. Model's choice: a malformed write while BUSY = 1 is a BusError too, and
not a HazardViolation (log 7). -/
def Obligations.MalformedAccessIsABusError : Prop :=
  ∀ (s : State) (a : Access) (off width : Nat) (rest : List Turn),
    off < 0x100 → 1 ≤ width → ¬(width = 4 ∧ off % 4 = 0) →
    accessAddr a = windowAddr s off → accessBytes a = width →
    s.agenda = .host a :: rest → step s = .fault (.busError a)

/-- R224: while BUSY = 1 a host write to any word of the window, CMD, the read-only registers and the
reserved offsets included, is the fault HazardViolation; no second command is queued. -/
def Obligations.WriteWhileBusyIsAHazard : Prop :=
  ∀ (s : State) (off : Nat) (v : Word) (rest : List Turn),
    off < 0x100 → off % 4 = 0 → s.busy = true →
    s.agenda = .host (.write (windowAddr s off) 4 v) :: rest →
    step s = .fault (.hazardViolation (.write (windowAddr s off) 4 v))

/-- R225: while BUSY = 1 a read of any word of the window returns some value, for STATUS one with bit 0
set, and changes nothing of the engine: only the model's own fields (the rest of the agenda, the
replies, the count of free values) move. The completion that follows is the one that would have
followed without the read. -/
def Obligations.ReadWhileBusyHasNoSideEffect : Prop :=
  ∀ (s : State) (off : Nat) (rest : List Turn),
    off < 0x100 → off % 4 = 0 → s.busy = true →
    s.agenda = .host (.read (windowAddr s off) 4) :: rest →
    ∃ v : Word, (off = 0x04 → v.getLsbD 0 = true) ∧
      step s = .next { s with
        agenda := rest, replies := v :: s.replies, freeCount := s.freeCount + 1 } ∧
      ∃ u, complete { s with agenda := rest } = .next u ∧
        complete { s with
          agenda := rest, replies := v :: s.replies, freeCount := s.freeCount + 1 } =
        .next { u with replies := v :: s.replies, freeCount := s.freeCount + 1 }

/-- R51, R21, R54, R55: with BUSY = 0 the offsets 0x80 to 0xFC read 0 and ignore writes; CMD and KEY0..KEY3
read 0; DOUT0..DOUT3 and TAGOUT0..TAGOUT3 read their words in order, the counter registers the low and
the high half of their counter; writes to STATUS, DOUT, TAGOUT and the counter registers are ignored. -/
def Obligations.ReservedAndRestrictedOffsets : Prop :=
  ∀ (s : State) (off : Nat) (rest : List Turn), s.busy = false → off % 4 = 0 →
    ((0x80 ≤ off ∧ off ≤ 0xFC ∨ off = 0x00 ∨ 0x08 ≤ off ∧ off ≤ 0x14) →
      s.agenda = .host (.read (windowAddr s off) 4) :: rest →
      step s = .next { s with agenda := rest, replies := 0 :: s.replies }) ∧
    (∀ v : Word,
      (off = 0x28 ∧ v = s.dout.w0 ∨ off = 0x2C ∧ v = s.dout.w1 ∨
        off = 0x30 ∧ v = s.dout.w2 ∨ off = 0x34 ∧ v = s.dout.w3 ∨
        off = 0x48 ∧ v = s.tagout.w0 ∨ off = 0x4C ∧ v = s.tagout.w1 ∨
        off = 0x50 ∧ v = s.tagout.w2 ∨ off = 0x54 ∧ v = s.tagout.w3 ∨
        off = 0x68 ∧ v = BitVec.ofNat 32 s.nbytes.toNat ∨
        off = 0x6C ∧ v = BitVec.ofNat 32 (s.nbytes.toNat / 2 ^ 32) ∨
        off = 0x70 ∧ v = BitVec.ofNat 32 s.abytes.toNat ∨
        off = 0x74 ∧ v = BitVec.ofNat 32 (s.abytes.toNat / 2 ^ 32) ∨
        off = 0x78 ∧ v = BitVec.ofNat 32 s.dbytes.toNat ∨
        off = 0x7C ∧ v = BitVec.ofNat 32 (s.dbytes.toNat / 2 ^ 32)) →
      s.agenda = .host (.read (windowAddr s off) 4) :: rest →
      step s = .next { s with agenda := rest, replies := v :: s.replies }) ∧
    (∀ v : Word,
      (0x80 ≤ off ∧ off ≤ 0xFC ∨ off = 0x04 ∨ 0x28 ≤ off ∧ off ≤ 0x34 ∨ 0x48 ≤ off ∧ off ≤ 0x54 ∨
        0x68 ≤ off ∧ off ≤ 0x7C) →
      s.agenda = .host (.write (windowAddr s off) 4 v) :: rest →
      step s = .next { s with agenda := rest })

/-- R57: a write to CMD starts a command, and no other access has a side effect. Clauses, all with
BUSY = 0: a read changes nothing of the engine, and the same read again returns the same value; a write
to any word but CMD starts nothing and, repeated, leaves what it left the first time; a write to CMD
latches the word and sets BUSY, and nothing else. -/
def Obligations.OnlyTheCommandWriteHasASideEffect : Prop :=
  ∀ (s : State) (off : Nat) (rest : List Turn), s.busy = false → off < 0x100 → off % 4 = 0 →
    (s.agenda = .host (.read (windowAddr s off) 4) :: rest →
      ∃ v : Word, step s = .next { s with agenda := rest, replies := v :: s.replies } ∧
        step { s with agenda := .host (.read (windowAddr s off) 4) :: rest
                      replies := v :: s.replies } =
          .next { s with agenda := rest, replies := v :: v :: s.replies }) ∧
    (∀ v : Word, off ≠ 0 → s.agenda = .host (.write (windowAddr s off) 4 v) :: rest →
      ∃ t, step s = .next t ∧ t.busy = false ∧ t.latch = s.latch ∧ t.agenda = rest ∧
        step { t with agenda := .host (.write (windowAddr s off) 4 v) :: rest } = .next t) ∧
    (∀ w : Word, off = 0 → s.agenda = .host (.write (windowAddr s off) 4 w) :: rest →
      step s = .next { s with agenda := rest, latch := w, busy := true })

/-- R21, R25, R26, R54, R57: with BUSY = 0, a write to a word of KEY, DIN, TAGIN or GMY stores the value in
that word and changes nothing else; a read of a word of DIN, TAGIN or GMY returns it and changes
nothing; so a value written is the value the next read of the word returns, and for KEY 0. The words of
a group are G0..G3, the last index standing for 3, and byte 4i + j of the group as a block is byte j of
word i from the most significant. -/
def Obligations.OperandRegistersReadBack : Prop :=
  (∀ (q : Quad) (x : Word),
    quadSet q 0 x = { q with w0 := x } ∧ quadSet q 1 x = { q with w1 := x } ∧
    quadSet q 2 x = { q with w2 := x } ∧ quadSet q 3 x = { q with w3 := x } ∧
    quadGet q 0 = q.w0 ∧ quadGet q 1 = q.w1 ∧ quadGet q 2 = q.w2 ∧ quadGet q 3 = q.w3) ∧
  (∀ (q : Quad) (i j : Nat), i < 4 → j < 4 →
    byteAt (quadBlock q) (4 * i + j) = (quadGet q i).extractLsb' (24 - 8 * j) 8) ∧
  ∀ (s : State) (off : Nat) (v : Word) (rest : List Turn), s.busy = false → off % 4 = 0 →
    (s.agenda = .host (.write (windowAddr s off) 4 v) :: rest →
      (0x08 ≤ off ∧ off ≤ 0x14 →
        step s = .next { s with agenda := rest, key := quadSet s.key ((off - 0x08) / 4) v }) ∧
      (0x18 ≤ off ∧ off ≤ 0x24 →
        step s = .next { s with agenda := rest, din := quadSet s.din ((off - 0x18) / 4) v }) ∧
      (0x38 ≤ off ∧ off ≤ 0x44 →
        step s = .next { s with agenda := rest, tagin := quadSet s.tagin ((off - 0x38) / 4) v }) ∧
      (0x58 ≤ off ∧ off ≤ 0x64 →
        step s = .next { s with agenda := rest, gmy := quadSet s.gmy ((off - 0x58) / 4) v })) ∧
    (s.agenda = .host (.read (windowAddr s off) 4) :: rest →
      (0x18 ≤ off ∧ off ≤ 0x24 →
        step s = .next { s with
          agenda := rest, replies := quadGet s.din ((off - 0x18) / 4) :: s.replies }) ∧
      (0x38 ≤ off ∧ off ≤ 0x44 →
        step s = .next { s with
          agenda := rest, replies := quadGet s.tagin ((off - 0x38) / 4) :: s.replies }) ∧
      (0x58 ≤ off ∧ off ≤ 0x64 →
        step s = .next { s with
          agenda := rest, replies := quadGet s.gmy ((off - 0x58) / 4) :: s.replies })) ∧
    (s.agenda = .host (.write (windowAddr s off) 4 v) ::
        .host (.read (windowAddr s off) 4) :: rest →
      ((0x18 ≤ off ∧ off ≤ 0x24 ∨ 0x38 ≤ off ∧ off ≤ 0x44 ∨ 0x58 ≤ off ∧ off ≤ 0x64) →
        ∃ t, Sys2Proof.core.run 2 s = .next t ∧ t.replies = v :: s.replies) ∧
      (0x08 ≤ off ∧ off ≤ 0x14 →
        ∃ t, Sys2Proof.core.run 2 s = .next t ∧ t.replies = 0 :: s.replies ∧
          t.key = quadSet s.key ((off - 0x08) / 4) v))

/-- R22, R27, R28: the fields of STATUS stand at their bits with the numbers the rules give PHASE, DIR and
ERR, the reserved bits are 0, and with BUSY = 0 a read of offset 0x04 returns that word. -/
def Obligations.StatusWordLayout : Prop :=
  (phaseCode .fresh = 0 ∧ phaseCode .nonce = 1 ∧ phaseCode .aad = 2 ∧ phaseCode .data = 3 ∧
    phaseCode .finalized = 4 ∧ phaseCode .failed = 5) ∧
  (dirCode .encrypt = 0 ∧ dirCode .decrypt = 1) ∧
  (errCode .none = 0 ∧ errCode .invalidKeyLength = 1 ∧ errCode .usageError = 2 ∧
    errCode .limitExceeded = 3 ∧ errCode .authenticationFailure = 4) ∧
  ∀ (s : State) (rest : List Turn),
    (statusWord s).getLsbD 0 = s.busy ∧ (statusWord s).extractLsb' 1 3 = 0 ∧
    (statusWord s).extractLsb' 4 3 = phaseCode s.phase ∧
    (statusWord s).extractLsb' 7 1 = dirCode s.dir ∧
    (statusWord s).extractLsb' 8 3 = errCode s.err ∧ (statusWord s).getLsbD 11 = false ∧
    (statusWord s).getLsbD 12 = s.ncl ∧ (statusWord s).getLsbD 13 = s.acl ∧
    (statusWord s).getLsbD 14 = s.dcl ∧ (statusWord s).extractLsb' 15 17 = 0 ∧
    (s.busy = false → s.agenda = .host (.read (windowAddr s 0x04) 4) :: rest →
      step s = .next { s with agenda := rest, replies := statusWord s :: s.replies })

/-- R41, R52, R225: RK, H, J0, S, NRAW, LATCH and KEY are never readable. Two states that agree on the rest
answer every read alike, idle or busy; a busy read answers the free value of its number (model's, log
3), so there the two have drawn the same number. -/
def Obligations.SecretsAreNotReadable : Prop :=
  ∀ (s t : State) (addr width : Nat) (s' : State), sameReadable s t →
    (s.busy = true → s.freeCount = t.freeCount) →
    s.pBase = t.pBase → s.replies = t.replies →
    serve (.read addr width) s = .next s' →
    ∃ t', serve (.read addr width) t = .next t' ∧ t'.replies = s'.replies

/-- R20, R23: a host access changes only what the host may write: KEY, DIN, TAGIN, GMY, and by a write to
CMD the latch and BUSY. The rest of the context and the output registers stay. -/
def Obligations.HostAccessLeavesTheContext : Prop :=
  ∀ (s t : State) (a : Access) (rest : List Turn), s.agenda = .host a :: rest → step s = .next t →
    t = { s with
      key := t.key, din := t.din, tagin := t.tagin, gmy := t.gmy, latch := t.latch, busy := t.busy
      agenda := rest, replies := t.replies, freeCount := t.freeCount }

end Window

section Functions

open Sys2Proof Sys2Proof.Machine

/-- R105 with R102 to R104, as one sequence of words: K[0..3] are the key words, most significant first,
XORed with FK, K[i+4] is made from the four words before it with CK[i] and the round transform T spelled
out, and RK[i] = K[i+4]. The rule keeps the last four in k[i%4]; this says the two agree, for every key
and every tables. -/
def Obligations.KeyScheduleIsTheWordRecurrence : Prop :=
  ∀ (t : Tables) (key : Block), IsRoundTransform t (roundT t) ∧ ∃ K : Nat → Word,
    K 0 = key.extractLsb' 96 32 ^^^ t.fk.w0 ∧ K 1 = key.extractLsb' 64 32 ^^^ t.fk.w1 ∧
    K 2 = key.extractLsb' 32 32 ^^^ t.fk.w2 ∧ K 3 = key.extractLsb' 0 32 ^^^ t.fk.w3 ∧
    ∀ i : Fin 32,
      K (i + 4) = K i ^^^ roundT t (K (i + 1) ^^^ K (i + 2) ^^^ K (i + 3) ^^^ t.ck[i]) ∧
      (keySchedule t key)[i] = K (i + 4)

/-- R106 with R102 to R104, as one sequence of words: X[0..3] are the words of the input, most significant
first, X[i+4] is made from the four words before it with RK[i] and the round transform T spelled out,
and the output is X[35], X[34], X[33], X[32]. -/
def Obligations.EncryptIsTheWordRecurrence : Prop :=
  ∀ (t : Tables) (rk : Vector Word 32) (b : Block), IsRoundTransform t (roundT t) ∧
    ∃ X : Nat → Word,
      X 0 = b.extractLsb' 96 32 ∧ X 1 = b.extractLsb' 64 32 ∧
      X 2 = b.extractLsb' 32 32 ∧ X 3 = b.extractLsb' 0 32 ∧
      (∀ i : Fin 32,
        X (i + 4) = X i ^^^ roundT t (X (i + 1) ^^^ X (i + 2) ^^^ X (i + 3) ^^^ rk[i])) ∧
      encrypt t rk b = X 35 ++ X 34 ++ X 33 ++ X 32

/-- R106: the cipher is a permutation of the blocks under every round keys and every tables, so the
tables' own bijectivity is not needed. -/
def Obligations.EncryptIsAPermutationOfBlocks : Prop :=
  ∀ (t : Tables) (rk : Vector Word 32), Function.Bijective (encrypt t rk)

/-- R121, R122: the zero block annihilates on both sides, the block with only the most significant bit
is the identity on both sides, and multiplication distributes over XOR in both operands. -/
def Obligations.MultiplyIsBilinearWithIdentity : Prop :=
  ∀ x y z : Block, multiply 0 y = 0 ∧ multiply y 0 = 0 ∧
    multiply (BitVec.twoPow 128 127) y = y ∧ multiply y (BitVec.twoPow 128 127) = y ∧
    multiply (x ^^^ y) z = multiply x z ^^^ multiply y z ∧
    multiply x (y ^^^ z) = multiply x y ^^^ multiply x z

/-- R122: multiplication is commutative. -/
def Obligations.MultiplyIsCommutative : Prop :=
  ∀ x y : Block, multiply x y = multiply y x

/-- R122: multiplication is associative. -/
def Obligations.MultiplyIsAssociative : Prop :=
  ∀ x y z : Block, multiply (multiply x y) z = multiply x (multiply y z)

/-- R144: the counter block keeps the upper 96 bits of J0, and its last 32 bits, read as a number, are
those of J0 plus n modulo 2^32. -/
def Obligations.CounterBlockWraps : Prop :=
  ∀ (j0 : Block) (n : Nat),
    (ctr j0 n).toNat / 2 ^ 32 = j0.toNat / 2 ^ 32 ∧
    (ctr j0 n).toNat % 2 ^ 32 = (j0.toNat % 2 ^ 32 + n) % 2 ^ 32

/-- R148: every accepted DATA has 1 ≤ n ≤ 2^32 − 2, and the counter blocks of such n differ from J0 and
from each other, so no data block is encrypted with the tag mask or with another block's keystream
input. -/
def Obligations.DataCounterBlocksAreDistinct : Prop :=
  (∀ (s : State) (len : Nat), check (.data len) s = none →
    1 ≤ blockIndex s.dbytes ∧ blockIndex s.dbytes ≤ 2 ^ 32 - 2) ∧
  ∀ (j0 : Block) (n m : Nat), 1 ≤ n → n ≤ 2 ^ 32 - 2 → 1 ≤ m → m ≤ 2 ^ 32 - 2 →
    ctr j0 n ≠ j0 ∧ (n ≠ m → ctr j0 n ≠ ctr j0 m)

end Functions

section Commands

open Sys2Proof Sys2Proof.Machine

/-- R108: KEYSET. It completes in every state with LEN = 16; any other LEN is INVALID_KEY_LENGTH and
discards the context with KEY, DOUT and TAGOUT. Every field of the state that is not named keeps its
value; so do all of them but ERR and the phase in a USAGE_ERROR rejection, also of a KEYSET word with
RSV or DIR set. -/
def Obligations.KeysetCommand : Prop :=
  ∀ (s : State) (n : Nat),
    encode (.keyset 16) = 0x00001001 ∧
    exec (.keyset 16) s = .next { s with
      j0 := 0, acc := 0, nraw := 0, nbytes := 0, abytes := 0, dbytes := 0
      ncl := false, acl := false, dcl := false, dir := .encrypt
      dout := ⟨0, 0, 0, 0⟩, tagout := ⟨0, 0, 0, 0⟩
      rk := keySchedule s.tables (quadBlock s.key)
      h := encrypt s.tables (keySchedule s.tables (quadBlock s.key)) 0
      phase := .nonce, err := .none } ∧
    (n ≠ 16 → exec (.keyset n) s = .next { s with
      j0 := 0, acc := 0, nraw := 0, nbytes := 0, abytes := 0, dbytes := 0
      ncl := false, acl := false, dcl := false, dir := .encrypt
      key := ⟨0, 0, 0, 0⟩, dout := ⟨0, 0, 0, 0⟩, tagout := ⟨0, 0, 0, 0⟩
      rk := Vector.replicate 32 0, h := 0, phase := .fresh, err := .invalidKeyLength }) ∧
    (s.latch.toNat % 256 = 0x01 → 65536 ≤ s.latch.toNat →
      complete s = .next { failMessage .usageError s with busy := false })

/-- R142: NONCE. With LEN = n in 1..16, phase NONCE, NCL = 0 and the total within 2^61 − 1 bytes it
completes with the state the rule writes; past the limit it is LIMIT_EXCEEDED; otherwise USAGE_ERROR.
Every field of the state that is not named keeps its value; so do all of them but ERR and the phase in a
USAGE_ERROR rejection, also of a NONCE word with RSV or DIR set. -/
def Obligations.NonceCommand : Prop :=
  ∀ (s : State) (n : Nat),
    (1 ≤ n → n ≤ 16 → encode (.nonce n) = BitVec.ofNat 32 (0x100 * n + 0x02)) ∧
    (1 ≤ n → n ≤ 16 → s.phase = .nonce → s.ncl = false → s.nbytes.toNat + n ≤ 2 ^ 61 - 1 →
      exec (.nonce n) s = .next { s with
        nraw := if s.nbytes = 0 then (firstBytes n (quadBlock s.din)).extractLsb' 32 96 else s.nraw
        acc := fold s.h s.acc (firstBytes n (quadBlock s.din))
        nbytes := BitVec.ofNat 64 (s.nbytes.toNat + n)
        ncl := decide (n < 16), err := .none }) ∧
    (1 ≤ n → n ≤ 16 → s.phase = .nonce → s.ncl = false → 2 ^ 61 - 1 < s.nbytes.toNat + n →
      exec (.nonce n) s = .next { s with phase := .failed, err := .limitExceeded }) ∧
    (¬(1 ≤ n ∧ n ≤ 16) ∨ s.phase ≠ .nonce ∨ s.ncl = true →
      exec (.nonce n) s = .next (failMessage .usageError s)) ∧
    (s.latch.toNat % 256 = 0x02 → 65536 ≤ s.latch.toNat →
      complete s = .next { failMessage .usageError s with busy := false })

/-- R143: START. In phase NONCE with at least one nonce byte and LEN = 0 it completes: J0 by the direct path
exactly when NBYTES = 12, S reset, DIR latched, phase AAD; otherwise USAGE_ERROR. Every field of the
state that is not named keeps its value; so do all of them but ERR and the phase in a USAGE_ERROR
rejection, also of a START word with RSV set. -/
def Obligations.StartCommand : Prop :=
  ∀ (s : State) (n : Nat) (d : Direction),
    encode (.start 0 .encrypt) = 0x00000003 ∧ encode (.start 0 .decrypt) = 0x00010003 ∧
    (s.phase = .nonce → s.nbytes.toNat = 12 →
      exec (.start 0 d) s = .next { s with
        j0 := s.nraw ++ (0x00000001 : Word), acc := 0, dir := d, phase := .aad, err := .none }) ∧
    (s.phase = .nonce → 1 ≤ s.nbytes.toNat → s.nbytes.toNat ≠ 12 →
      exec (.start 0 d) s = .next { s with
        j0 := fold s.h s.acc ((0 : BitVec 64) ++ BitVec.ofNat 64 (8 * s.nbytes.toNat))
        acc := 0, dir := d, phase := .aad, err := .none }) ∧
    (n ≠ 0 ∨ s.phase ≠ .nonce ∨ s.nbytes.toNat = 0 →
      exec (.start n d) s = .next (failMessage .usageError s)) ∧
    (s.latch.toNat % 256 = 0x03 → 131072 ≤ s.latch.toNat →
      complete s = .next { failMessage .usageError s with busy := false })

/-- R126: AAD. With LEN = n in 1..16, phase AAD, ACL = 0 and the total within 2^61 − 1 bytes it completes: S
folds the first n bytes of DIN, ABYTES grows by n, ACL is set by a partial block; past the limit it is
LIMIT_EXCEEDED; otherwise USAGE_ERROR. Every field of the state that is not named keeps its value; so do
all of them but ERR and the phase in a USAGE_ERROR rejection, also of an AAD word with RSV or DIR set. -/
def Obligations.AadCommand : Prop :=
  ∀ (s : State) (n : Nat),
    (1 ≤ n → n ≤ 16 → encode (.aad n) = BitVec.ofNat 32 (0x100 * n + 0x04)) ∧
    (1 ≤ n → n ≤ 16 → s.phase = .aad → s.acl = false → s.abytes.toNat + n ≤ 2 ^ 61 - 1 →
      exec (.aad n) s = .next { s with
        acc := fold s.h s.acc (firstBytes n (quadBlock s.din))
        abytes := BitVec.ofNat 64 (s.abytes.toNat + n)
        acl := decide (n < 16), err := .none }) ∧
    (1 ≤ n → n ≤ 16 → s.phase = .aad → s.acl = false → 2 ^ 61 - 1 < s.abytes.toNat + n →
      exec (.aad n) s = .next { s with phase := .failed, err := .limitExceeded }) ∧
    (¬(1 ≤ n ∧ n ≤ 16) ∨ s.phase ≠ .aad ∨ s.acl = true →
      exec (.aad n) s = .next (failMessage .usageError s)) ∧
    (s.latch.toNat % 256 = 0x04 → 65536 ≤ s.latch.toNat →
      complete s = .next { failMessage .usageError s with busy := false })

/-- R146: DATA. With LEN = n in 1..16, phase AAD or DATA, DCL = 0 and the total within 2^36 − 32 bytes it
completes: the output is the input XORed with the keystream of block DBYTES div 16 + 1, cut to n bytes;
the folded block is that output when encrypting and the input when decrypting. Past the limit
LIMIT_EXCEEDED; otherwise USAGE_ERROR. Every field of the state that is not named keeps its value; so do
all of them but ERR and the phase in a USAGE_ERROR rejection, also of a DATA word with RSV or DIR set. -/
def Obligations.DataCommand : Prop :=
  ∀ (s : State) (n : Nat),
    (1 ≤ n → n ≤ 16 → encode (.data n) = BitVec.ofNat 32 (0x100 * n + 0x05)) ∧
    (∀ out : Block,
      out = firstBytes n (quadBlock s.din) ^^^
        firstBytes n (encrypt s.tables s.rk (ctr s.j0 (s.dbytes.toNat / 16 + 1))) →
      1 ≤ n → n ≤ 16 → s.phase = .aad ∨ s.phase = .data → s.dcl = false →
      s.dbytes.toNat + n ≤ 2 ^ 36 - 32 →
      exec (.data n) s = .next { s with
        acc := fold s.h s.acc
          (if s.dir = .encrypt then out else firstBytes n (quadBlock s.din))
        dout := blockQuad out
        dbytes := BitVec.ofNat 64 (s.dbytes.toNat + n)
        dcl := decide (n < 16), phase := .data, err := .none }) ∧
    (1 ≤ n → n ≤ 16 → s.phase = .aad ∨ s.phase = .data → s.dcl = false →
      2 ^ 36 - 32 < s.dbytes.toNat + n →
      exec (.data n) s = .next { s with phase := .failed, err := .limitExceeded }) ∧
    (¬(1 ≤ n ∧ n ≤ 16) ∨ (s.phase ≠ .aad ∧ s.phase ≠ .data) ∨ s.dcl = true →
      exec (.data n) s = .next (failMessage .usageError s)) ∧
    (s.latch.toNat % 256 = 0x05 → 65536 ≤ s.latch.toNat →
      complete s = .next { failMessage .usageError s with busy := false })

/-- R163: FINAL. With LEN = n in 1..16, phase AAD or DATA and DIR = 0 it completes: S takes the length
block, TAGOUT the first n bytes of Encrypt(RK, J0) XOR S; otherwise USAGE_ERROR. Every field of the
state that is not named keeps its value; so do all of them but ERR and the phase in a USAGE_ERROR
rejection, also of a FINAL word with RSV or DIR set. -/
def Obligations.FinalCommand : Prop :=
  ∀ (s : State) (n : Nat),
    (1 ≤ n → n ≤ 16 → encode (.final n) = BitVec.ofNat 32 (0x100 * n + 0x06)) ∧
    (∀ lb sum : Block,
      lb = BitVec.ofNat 64 (8 * s.abytes.toNat) ++ BitVec.ofNat 64 (8 * s.dbytes.toNat) →
      sum = fold s.h s.acc lb →
      1 ≤ n → n ≤ 16 → s.phase = .aad ∨ s.phase = .data → s.dir = .encrypt →
      exec (.final n) s = .next { s with
        acc := sum
        tagout := blockQuad (firstBytes n (encrypt s.tables s.rk s.j0 ^^^ sum))
        phase := .finalized, err := .none }) ∧
    (¬(1 ≤ n ∧ n ≤ 16) ∨ (s.phase ≠ .aad ∧ s.phase ≠ .data) ∨ s.dir = .decrypt →
      exec (.final n) s = .next (failMessage .usageError s)) ∧
    (s.latch.toNat % 256 = 0x06 → 65536 ≤ s.latch.toNat →
      complete s = .next { failMessage .usageError s with busy := false })

/-- R164: VERIFY. With LEN = n in 1..16, phase AAD or DATA and DIR = 1 it completes: S takes the length
block and TAGOUT is zeroed; where the first n bytes of the tag and of TAGIN agree ERR is NONE and DOUT
keeps its value, where they differ ERR is AUTHENTICATION_FAILURE and DOUT is zeroed; the phase is
FINALIZED either way. Otherwise USAGE_ERROR. Every field of the state that is not named keeps its value;
so do all of them but ERR and the phase in a USAGE_ERROR rejection, also of a VERIFY word with RSV or
DIR set. -/
def Obligations.VerifyCommand : Prop :=
  ∀ (s : State) (n : Nat),
    (1 ≤ n → n ≤ 16 → encode (.verify n) = BitVec.ofNat 32 (0x100 * n + 0x07)) ∧
    (∀ lb sum tag : Block,
      lb = BitVec.ofNat 64 (8 * s.abytes.toNat) ++ BitVec.ofNat 64 (8 * s.dbytes.toNat) →
      sum = fold s.h s.acc lb → tag = encrypt s.tables s.rk s.j0 ^^^ sum →
      1 ≤ n → n ≤ 16 → s.phase = .aad ∨ s.phase = .data → s.dir = .decrypt →
      ((∀ k < n, byteAt tag k = byteAt (quadBlock s.tagin) k) →
        exec (.verify n) s = .next { s with
          acc := sum, tagout := ⟨0, 0, 0, 0⟩, phase := .finalized, err := .none }) ∧
      ((∃ k < n, byteAt tag k ≠ byteAt (quadBlock s.tagin) k) →
        exec (.verify n) s = .next { s with
          acc := sum, tagout := ⟨0, 0, 0, 0⟩, dout := ⟨0, 0, 0, 0⟩
          phase := .finalized, err := .authenticationFailure })) ∧
    (¬(1 ≤ n ∧ n ≤ 16) ∨ (s.phase ≠ .aad ∧ s.phase ≠ .data) ∨ s.dir = .encrypt →
      exec (.verify n) s = .next (failMessage .usageError s)) ∧
    (s.latch.toNat % 256 = 0x07 → 65536 ≤ s.latch.toNat →
      complete s = .next { failMessage .usageError s with busy := false })

/-- R109: ECB. Outside FRESH with LEN = 0 it completes and changes DOUT and ERR alone; otherwise
USAGE_ERROR. Every field of the state that is not named keeps its value; so do all of them but ERR and
the phase in a USAGE_ERROR rejection, also of an ECB word with RSV or DIR set. -/
def Obligations.EcbCommand : Prop :=
  ∀ (s : State) (n : Nat),
    encode (.ecb 0) = 0x00000008 ∧
    (s.phase ≠ .fresh → exec (.ecb 0) s = .next { s with
      dout := blockQuad (encrypt s.tables s.rk (quadBlock s.din)), err := .none }) ∧
    (n ≠ 0 ∨ s.phase = .fresh → exec (.ecb n) s = .next (failMessage .usageError s)) ∧
    (s.latch.toNat % 256 = 0x08 → 65536 ≤ s.latch.toNat →
      complete s = .next { failMessage .usageError s with busy := false })

/-- R127: GMUL. In every phase with LEN = 0 it completes and changes DOUT and ERR alone; otherwise
USAGE_ERROR. Every field of the state that is not named keeps its value; so do all of them but ERR and
the phase in a USAGE_ERROR rejection, also of a GMUL word with RSV or DIR set. -/
def Obligations.GmulCommand : Prop :=
  ∀ (s : State) (n : Nat),
    encode (.gmul 0) = 0x00000009 ∧
    exec (.gmul 0) s = .next { s with
      dout := blockQuad (multiply (quadBlock s.din) (quadBlock s.gmy)), err := .none } ∧
    (n ≠ 0 → exec (.gmul n) s = .next (failMessage .usageError s)) ∧
    (s.latch.toNat % 256 = 0x09 → 65536 ≤ s.latch.toNat →
      complete s = .next { failMessage .usageError s with busy := false })

/-- R167, R221: CLEAR. In every phase with LEN = 0 it completes and every register and context field of R39
is 0, but BUSY, which is cleared when the command completes; so its completion leaves the very state
that a reset leaves. A malformed CLEAR clears nothing and is USAGE_ERROR. Every field of the state that
is not named keeps its value; so do all of them but ERR and the phase in a USAGE_ERROR rejection, also
of a CLEAR word with RSV or DIR set. -/
def Obligations.ClearCommand : Prop :=
  ∀ (s : State) (n : Nat),
    encode (.clear 0) = 0x0000000A ∧
    exec (.clear 0) s = .next { s with
      key := ⟨0, 0, 0, 0⟩, din := ⟨0, 0, 0, 0⟩, dout := ⟨0, 0, 0, 0⟩
      tagin := ⟨0, 0, 0, 0⟩, tagout := ⟨0, 0, 0, 0⟩, gmy := ⟨0, 0, 0, 0⟩
      rk := Vector.replicate 32 0, h := 0, j0 := 0, acc := 0, nraw := 0
      nbytes := 0, abytes := 0, dbytes := 0, dir := .encrypt, latch := 0
      ncl := false, acl := false, dcl := false, phase := .fresh, err := .none } ∧
    (s.latch = 0x0000000A →
      ∃ t, complete s = .next t ∧ step { s with agenda := .reset :: s.agenda } = .next t) ∧
    (n ≠ 0 → exec (.clear n) s = .next (failMessage .usageError s)) ∧
    (s.latch.toNat % 256 = 0x0A → 65536 ≤ s.latch.toNat →
      complete s = .next { failMessage .usageError s with busy := false })

end Commands

section Errors

open Sys2Proof Sys2Proof.Machine

/-- R201: the order of the checks over the latched word. The first check that fails decides the code,
which is the one reported; where all pass, the word is a command that executes. -/
def Obligations.ChecksAreMadeInOrder : Prop :=
  ∀ s : State,
    (∀ e, wordCheck s.latch s = some e → ∃ t, complete s = .next t ∧ t.err = e) ∧
    (wordCheck s.latch s = none →
      ∃ i t, decode s.latch = .ok i ∧ check i s = none ∧ complete s = .next t ∧
        (t.err = .none ∨ t.err = .authenticationFailure))

/-- R202: what a rejection changes. A KEYSET with an illegal length returns every ctx field that the rule
lists to its reset value, zeroes KEY, DOUT and TAGOUT, keeps DIN, TAGIN and GMY and reports
INVALID_KEY_LENGTH; every other rejection changes only the phase (an in-message phase to FAILED) and
ERR. That LATCH, which the rule does not list, is kept is the model's, by inference (log 6). -/
def Obligations.WhatARejectionChanges : Prop :=
  ∀ (i : Instr) (s : State) (e : ErrCode), check i s = some e →
    ((∃ n, i = .keyset n) → e = .invalidKeyLength ∧ exec i s = .next { s with
      j0 := 0, acc := 0, nraw := 0, nbytes := 0, abytes := 0, dbytes := 0
      ncl := false, acl := false, dcl := false, dir := .encrypt
      key := ⟨0, 0, 0, 0⟩, dout := ⟨0, 0, 0, 0⟩, tagout := ⟨0, 0, 0, 0⟩
      rk := Vector.replicate 32 0, h := 0, phase := .fresh, err := .invalidKeyLength }) ∧
    ((∀ n, i ≠ .keyset n) → exec i s = .next { s with
      err := e
      phase := if s.phase = .nonce ∨ s.phase = .aad ∨ s.phase = .data ∨ s.phase = .finalized
        then .failed else s.phase })

/-- R203: an accepted command sets ERR to NONE, but for a VERIFY whose tags differ, which sets
AUTHENTICATION_FAILURE; whatever ERR was before does not matter. -/
def Obligations.ErrIsTheLastCommandsResult : Prop :=
  ∀ (i : Instr) (s t : State), check i s = none → exec i s = .next t →
    ((∀ n, i ≠ .verify n) → t.err = .none) ∧
    (∀ n, i = .verify n →
      (t.err = .none ↔ firstBytes n (fullTag s) = firstBytes n (quadBlock s.tagin)) ∧
      (t.err = .authenticationFailure ↔
        firstBytes n (fullTag s) ≠ firstBytes n (quadBlock s.tagin))) ∧
    ∀ e, exec i { s with err := e } = .next t

/-- R160: the phase after a command: the table's for an accepted one; for a rejected one FAILED from an
in-message phase, and otherwise the phase it was, but FRESH after INVALID_KEY_LENGTH. -/
def Obligations.PhaseTransitions : Prop :=
  ∀ (i : Instr) (s t : State), exec i s = .next t →
    (check i s = none → t.phase = acceptedPhase i s.phase) ∧
    (check i s = some .invalidKeyLength → t.phase = .fresh) ∧
    (∀ e, check i s = some e → e ≠ .invalidKeyLength →
      (s.phase = .nonce ∨ s.phase = .aad ∨ s.phase = .data ∨ s.phase = .finalized →
        t.phase = .failed) ∧
      (s.phase = .fresh ∨ s.phase = .failed → t.phase = s.phase))

/-- R161: with a legal LEN, a command whose cell of the table is empty or whose condition fails is
rejected with USAGE_ERROR, and one whose cell is marked and holds is not. -/
def Obligations.PermittedCommandsTable : Prop :=
  ∀ (i : Instr) (s : State), lenError i = none →
    (permittedTable (opcodeOf i).toNat s = false →
      exec i s = .next (failMessage .usageError s)) ∧
    (permittedTable (opcodeOf i).toNat s = true →
      ∃ t, exec i s = .next t ∧ t.err ≠ .usageError)

/-- R205, R168, R202: from FAILED and from FINALIZED only KEYSET, CLEAR, ECB and GMUL are accepted;
KEYSET opens a new context, CLEAR and a KEYSET of a wrong length lead to FRESH, ECB and GMUL keep
the phase, and after anything else the phase is FAILED. -/
def Obligations.NoRecoveryButKeysetAndClear : Prop :=
  ∀ (i : Instr) (s t : State), s.phase = .failed ∨ s.phase = .finalized → exec i s = .next t →
    (check i s = none → i = .keyset 16 ∨ i = .clear 0 ∨ i = .ecb 0 ∨ i = .gmul 0) ∧
    (i = .keyset 16 → t.phase = .nonce) ∧ (i = .clear 0 → t.phase = .fresh) ∧
    (∀ n, i = .keyset n → n ≠ 16 → t.phase = .fresh ∧ t.err = .invalidKeyLength) ∧
    (i = .ecb 0 ∨ i = .gmul 0 → t.phase = s.phase) ∧
    ((∀ n, i ≠ .keyset n) → i ≠ .clear 0 → i ≠ .ecb 0 → i ≠ .gmul 0 → t.phase = .failed)

/-- R168, R160: the only way into phase NONCE is an accepted KEYSET, which clears J0, S, the counters and
the flags, so every new nonce needs one. -/
def Obligations.OnlyKeysetOpensAMessage : Prop :=
  ∀ s t : State, step s = .next t → t.phase = .nonce → s.phase ≠ .nonce →
    s.busy = true ∧ decode s.latch = .ok (.keyset 16) ∧ t.j0 = 0 ∧ t.acc = 0 ∧ t.nbytes = 0 ∧
      t.abytes = 0 ∧ t.dbytes = 0 ∧ t.ncl = false ∧ t.acl = false ∧ t.dcl = false

/-- R36: which commands write DOUT and TAGOUT. Any other command, and any other outcome of these, leaves
them. -/
def Obligations.WritersOfTheOutputRegisters : Prop :=
  ∀ (i : Instr) (s t : State), exec i s = .next t →
    (t.dout ≠ s.dout →
      ((∃ n, i = .data n) ∨ i = .ecb 0 ∨ i = .gmul 0) ∧ check i s = none ∨
      (∃ n, i = .verify n) ∧ t.err = .authenticationFailure ∧ t.dout = ⟨0, 0, 0, 0⟩ ∨
      ((∃ n, i = .keyset n) ∨ i = .clear 0) ∧ t.dout = ⟨0, 0, 0, 0⟩) ∧
    (t.tagout ≠ s.tagout →
      (∃ n, i = .final n) ∧ check i s = none ∨
      ((∃ n, i = .verify n) ∨ (∃ n, i = .keyset n) ∨ i = .clear 0) ∧ t.tagout = ⟨0, 0, 0, 0⟩)

/-- R29: a closed flag is set only by an accepted block with LEN < 16 of its section, cleared only by
KEYSET or CLEAR (reset apart), and while set forbids further blocks of the section. -/
def Obligations.ClosedFlagsRule : Prop :=
  ∀ (i : Instr) (s t : State), exec i s = .next t →
    (s.ncl = false → (t.ncl = true ↔ ∃ n, i = .nonce n ∧ n < 16 ∧ check i s = none)) ∧
    (s.acl = false → (t.acl = true ↔ ∃ n, i = .aad n ∧ n < 16 ∧ check i s = none)) ∧
    (s.dcl = false → (t.dcl = true ↔ ∃ n, i = .data n ∧ n < 16 ∧ check i s = none)) ∧
    (s.ncl = true → (t.ncl = false ↔ (∃ n, i = .keyset n) ∨ i = .clear 0)) ∧
    (s.acl = true → (t.acl = false ↔ (∃ n, i = .keyset n) ∨ i = .clear 0)) ∧
    (s.dcl = true → (t.dcl = false ↔ (∃ n, i = .keyset n) ∨ i = .clear 0)) ∧
    (∀ n, s.ncl = true ∧ i = .nonce n ∨ s.acl = true ∧ i = .aad n ∨ s.dcl = true ∧ i = .data n →
      t.err = .usageError)

end Errors

section Invariants

open Sys2Proof Sys2Proof.Machine

/-- R40: every step keeps the invariants of the context. -/
def Obligations.StepKeepsContextInvariant : Prop :=
  ∀ s t : State, ContextInvariant s → step s = .next t → ContextInvariant t

/-- R40, R32: the two invariants hold right after reset. -/
def Obligations.ResetHasTheInvariants : Prop :=
  ContextInvariant State.reset ∧ SubkeyInvariant State.reset

/-- R32, R110: every step keeps the relation of the hash subkey and the round keys. -/
def Obligations.StepKeepsSubkeyInvariant : Prop :=
  ∀ s t : State, SubkeyInvariant s → step s = .next t → SubkeyInvariant t

/-- R38: no command and no reset changes the constant tables. Nor does any step change P_BASE: it is a
parameter (R10), and that a reset keeps it is the model's choice (log 13). -/
def Obligations.TablesAreNeverWritten : Prop :=
  ∀ s t : State, step s = .next t → t.tables = s.tables ∧ t.pBase = s.pBase

/-- R31, R32, R33: RK and H change only by a KEYSET, a CLEAR or a reset, and J0 only by those and START,
whatever the step. -/
def Obligations.WritersOfTheKeyState : Prop :=
  ∀ s t : State, step s = .next t →
    (t.rk ≠ s.rk ∨ t.h ≠ s.h →
      (∃ rest, s.agenda = .reset :: rest) ∨
      s.busy = true ∧ ((∃ n, decode s.latch = .ok (.keyset n)) ∨
        decode s.latch = .ok (.clear 0))) ∧
    (t.j0 ≠ s.j0 →
      (∃ rest, s.agenda = .reset :: rest) ∨
      s.busy = true ∧ ((∃ n, decode s.latch = .ok (.keyset n)) ∨
        decode s.latch = .ok (.clear 0) ∨ ∃ d, decode s.latch = .ok (.start 0 d)))

/-- R26, R123, U16: the bytes of DIN at or beyond LEN never matter to NONCE, AAD or DATA; R164: the
bytes of TAGIN at or beyond LEN never matter to VERIFY. With other bytes there, the result is the
same but for the register itself. -/
def Obligations.BytesBeyondLenNeverMatter : Prop :=
  ∀ (s t : State) (n : Nat) (q : Quad), n ≤ 16 →
    ((∀ k < n, byteAt (quadBlock q) k = byteAt (quadBlock s.din) k) →
      ∀ i : Instr, i = .nonce n ∨ i = .aad n ∨ i = .data n →
      exec i s = .next t → exec i { s with din := q } = .next { t with din := q }) ∧
    ((∀ k < n, byteAt (quadBlock q) k = byteAt (quadBlock s.tagin) k) →
      exec (.verify n) s = .next t →
      exec (.verify n) { s with tagin := q } = .next { t with tagin := q })

/-- R146 with D26: no keystream byte leaks: after an accepted DATA with LEN = n the bytes of DOUT below n
are the input bytes XORed with the keystream's, and the others are 0. -/
def Obligations.OutputBytesBeyondLenAreZero : Prop :=
  ∀ (s t : State) (n : Nat), check (.data n) s = none → exec (.data n) s = .next t →
    (∀ k < n, byteAt (quadBlock t.dout) k = byteAt (quadBlock s.din) k ^^^ byteAt (keystream s) k) ∧
    (∀ k, n ≤ k → k < 16 → byteAt (quadBlock t.dout) k = 0)

end Invariants

section Messages

open Sys2Proof Sys2Proof.Machine

/-- R142, R143, R140: the NONCE commands over the chunks of a nonce and then START, from the state a
KEYSET leaves, are all accepted and give J0of(nonce), with S reset and the nonce's length in NBYTES.
The host sequence runs against an idle engine and completes each command at once: the model's, by
inference (log 17). -/
def Obligations.NonceCommandsDeriveJ0 : Prop :=
  ∀ (s : State) (nonce : List Byte) (d : Direction),
    s.busy = false → s.phase = .nonce → s.ncl = false → s.nbytes = 0 → s.acc = 0 →
    1 ≤ nonce.length → nonce.length ≤ 2 ^ 61 - 1 →
    ∃ t u, feedChunks .nonce (chunks nonce) s = .ok t ∧ doChecked (.start 0 d) t = .ok u ∧
      u.j0 = j0of s.h nonce ∧ u.acc = 0 ∧ u.nbytes.toNat = nonce.length ∧ u.dir = d ∧
      u.phase = .aad

/-- R171: the host's Encrypt sequence, within the limits, runs without an error and yields the ciphertext
and the truncated tag of the source's whole-message functions; the engine ends FINALIZED. With a tagLen
outside 1 to 16 it reports UsageError, and TAGOUT holds 0 (R165, D12; for a tagLen that no command word
holds the word is the model's choice, log 19). The host sequence runs against an idle engine and
completes each command at once: the model's, by inference (log 17). -/
def Obligations.EncryptSequenceComputesTheMessage : Prop :=
  ∀ (s : State) (key : Block) (nonce aad plaintext : List Byte) (tagLen : Nat),
    s.busy = false → 1 ≤ nonce.length → nonce.length ≤ 2 ^ 61 - 1 → aad.length ≤ 2 ^ 61 - 1 →
    plaintext.length ≤ 2 ^ 36 - 32 →
    (1 ≤ tagLen → tagLen ≤ 16 →
      ∃ u, encryptMessage key nonce aad plaintext tagLen s =
          .ok ((messageChunks s.tables key nonce plaintext).flatten,
            (blockBytes (messageTag s.tables key nonce aad
              (messageChunks s.tables key nonce plaintext) plaintext.length)).take tagLen, u) ∧
        u.phase = .finalized ∧ u.err = .none ∧ u.busy = false) ∧
    (¬(1 ≤ tagLen ∧ tagLen ≤ 16) →
      ∃ u, encryptMessage key nonce aad plaintext tagLen s = .error (.engineError .usageError u) ∧
        u.phase = .failed ∧ u.tagout = ⟨0, 0, 0, 0⟩ ∧ u.busy = false)

/-- R170, R171, R172, round trip: for every key, nonce, AAD and plaintext within the limits and every tag
length, Decrypt of what Encrypt gives returns the plaintext with success, on any idle engine with the
same tables. And Decrypt of anything with a tagLen outside 1 to 16 reports UsageError and returns no
plaintext (R165, D12; for a tagLen that no command word holds the word is the model's choice, log 19).
The host sequences run against an idle engine and complete each command at once: the model's, by
inference (log 17). -/
def Obligations.DecryptOfEncryptIsThePlaintext : Prop :=
  ∀ (s s' : State) (key : Block) (nonce aad plaintext : List Byte) (tagLen : Nat),
    s.busy = false → s'.busy = false → s'.tables = s.tables →
    1 ≤ nonce.length → nonce.length ≤ 2 ^ 61 - 1 → aad.length ≤ 2 ^ 61 - 1 →
    plaintext.length ≤ 2 ^ 36 - 32 →
    (1 ≤ tagLen → tagLen ≤ 16 →
      ∃ c tag u u', encryptMessage key nonce aad plaintext tagLen s = .ok (c, tag, u) ∧
        c.length = plaintext.length ∧ tag.length = tagLen ∧
        decryptMessage key nonce aad c tag tagLen s' = .ok (plaintext, u')) ∧
    (¬(1 ≤ tagLen ∧ tagLen ≤ 16) →
      ∀ c tag : List Byte, c.length ≤ 2 ^ 36 - 32 →
        ∃ u, decryptMessage key nonce aad c tag tagLen s = .error (.engineError .usageError u) ∧
          u.phase = .failed ∧ u.busy = false)

/-- R170, R164, tag flips: a Decrypt on an idle engine that would succeed with a tag fails with
AUTHENTICATION_FAILURE for every other tag of the same length. The host sequence completes each command
at once: the model's, by inference (log 17). -/
def Obligations.AnyOtherTagIsRefused : Prop :=
  ∀ (s u : State) (key : Block) (nonce aad ciphertext plaintext tag tag' : List Byte) (tagLen : Nat),
    s.busy = false →
    tag.length = tagLen → tag'.length = tagLen → 1 ≤ tagLen → tagLen ≤ 16 → tag' ≠ tag →
    decryptMessage key nonce aad ciphertext tag tagLen s = .ok (plaintext, u) →
    ∃ v, decryptMessage key nonce aad ciphertext tag' tagLen s =
        .error (.engineError .authenticationFailure v) ∧
      v.dout = ⟨0, 0, 0, 0⟩ ∧ v.tagout = ⟨0, 0, 0, 0⟩ ∧ v.phase = .finalized

/-- R170, one block of the round trip: in a decrypting context that is otherwise the encrypting one, DATA
on the block that DATA gave returns the input block cut to LEN bytes, and both fold the same
ciphertext. -/
def Obligations.DecryptBlockInvertsEncryptBlock : Prop :=
  ∀ (s t : State) (n : Nat), s.dir = .encrypt → check (.data n) s = none →
    exec (.data n) s = .next t →
    ∃ u, exec (.data n) { s with dir := .decrypt, din := t.dout } = .next u ∧
      u.acc = t.acc ∧ u.dbytes = t.dbytes ∧ u.dcl = t.dcl ∧
      quadBlock u.dout = firstBytes n (quadBlock s.din)

/-- R170, R163, empty input: with no AAD and no data after START, the tag is the first bytes of
Encrypt(RK, J0), and S stays 0. -/
def Obligations.EmptyMessageTagIsTheMask : Prop :=
  ∀ (s : State) (n : Nat), s.phase = .aad → s.dir = .encrypt → s.acc = 0 → s.abytes = 0 →
    s.dbytes = 0 → 1 ≤ n → n ≤ 16 →
    exec (.final n) s = .next { s with
      tagout := blockQuad (firstBytes n (encrypt s.tables s.rk s.j0))
      phase := .finalized, err := .none }

/-- R173: any sequence of streamed calls issues the blocks of one call on the concatenation. -/
def Obligations.StreamedCallsGiveTheSameBlocks : Prop :=
  ∀ calls : List (List Byte), streamBlocks [] calls = chunks calls.flatten

end Messages
end

