-- ==== Sys2Proof/Laws/Blocks.lean ====
section
/-! SUPPORT. The small lemmas of blocks and register groups: packing and unpacking are inverse, and what
the byte mask does bit by bit. -/

namespace Sys2Proof.Machine

@[simp] theorem quadBlock_blockQuad (b : Block) : quadBlock (blockQuad b) = b := by
  apply BitVec.eq_of_getLsbD_eq
  intro i hi
  simp only [quadBlock, blockQuad, load32, BitVec.getLsbD_append, BitVec.getLsbD_extractLsb']
  by_cases h0 : i < 32
  · simp [h0]
  · by_cases h1 : i < 64
    · simp [h0, show i - 32 < 32 by omega, show 32 + (i - 32) = i by omega]
    · by_cases h2 : i < 96
      · simp [h0, show ¬ i - 32 < 32 by omega, show i - 32 - 32 < 32 by omega,
          show 64 + (i - 32 - 32) = i by omega]
      · simp [h0, show ¬ i - 32 < 32 by omega, show ¬ i - 32 - 32 < 32 by omega,
          show i - 32 - 32 - 32 < 32 by omega, show 96 + (i - 32 - 32 - 32) = i by omega]

@[simp] theorem blockQuad_quadBlock (q : Quad) : blockQuad (quadBlock q) = q := by
  cases q
  simp only [quadBlock, blockQuad, load32, Quad.mk.injEq]
  refine ⟨?_, ?_, ?_, ?_⟩ <;>
    (apply BitVec.eq_of_getLsbD_eq; intro i hi
     simp only [BitVec.getLsbD_append, BitVec.getLsbD_extractLsb', hi]) <;> grind

/-- Bit j of the masked block: kept in the first n bytes, 0 beyond. -/
theorem getLsbD_firstBytes (n : Nat) (b : Block) (j : Nat) (hj : j < 128) :
    (firstBytes n b).getLsbD j = (decide (8 * (16 - n) ≤ j) && b.getLsbD j) := by
  rw [firstBytes, BitVec.getLsbD_and, BitVec.getLsbD_shiftLeft, BitVec.getLsbD_allOnes]
  by_cases h : 8 * (16 - n) ≤ j
  · simp [h, hj, show ¬ j < 8 * (16 - n) by omega, show j - 8 * (16 - n) < 128 by omega]
  · simp [h, hj, show j < 8 * (16 - n) by omega]

@[simp] theorem firstBytes_sixteen (b : Block) : firstBytes 16 b = b := by
  apply BitVec.eq_of_getLsbD_eq
  intro j hj
  simp [getLsbD_firstBytes _ _ _ hj]

theorem firstBytes_xor (n : Nat) (a b : Block) :
    firstBytes n (a ^^^ b) = firstBytes n a ^^^ firstBytes n b := by
  apply BitVec.eq_of_getLsbD_eq
  intro j hj
  simp only [getLsbD_firstBytes _ _ _ hj, BitVec.getLsbD_xor]
  cases decide (8 * (16 - n) ≤ j) <;> simp

@[simp] theorem firstBytes_firstBytes (n : Nat) (b : Block) :
    firstBytes n (firstBytes n b) = firstBytes n b := by
  apply BitVec.eq_of_getLsbD_eq
  intro j hj
  simp only [getLsbD_firstBytes _ _ _ hj]
  cases decide (8 * (16 - n) ≤ j) <;> simp

/-- Bit j of byte i. -/
theorem getLsbD_byteAt (b : Block) (i j : Nat) (hj : j < 8) :
    (byteAt b i).getLsbD j = b.getLsbD (8 * (15 - i) + j) := by
  simp [byteAt, hj]

theorem byteAt_xor (a b : Block) (k : Nat) : byteAt (a ^^^ b) k = byteAt a k ^^^ byteAt b k := by
  apply BitVec.eq_of_getLsbD_eq
  intro j hj
  simp [getLsbD_byteAt _ _ _ hj]

/-- Byte k of the masked block. -/
theorem byteAt_firstBytes (n : Nat) (b : Block) (k : Nat) (hk : k < 16) :
    byteAt (firstBytes n b) k = if k < n then byteAt b k else 0 := by
  apply BitVec.eq_of_getLsbD_eq
  intro j hj
  rw [getLsbD_byteAt _ _ _ hj, getLsbD_firstBytes _ _ _ (by omega)]
  by_cases h : k < n
  · rw [if_pos h, getLsbD_byteAt _ _ _ hj]; simp; omega
  · rw [if_neg h]; simp; intro; omega

/-- Blocks whose first n bytes agree have the same masked block. -/
theorem firstBytes_congr {n : Nat} {a b : Block} (hn : n ≤ 16)
    (h : ∀ k < n, byteAt a k = byteAt b k) : firstBytes n a = firstBytes n b := by
  apply BitVec.eq_of_getLsbD_eq
  intro j hj
  rw [getLsbD_firstBytes _ _ _ hj, getLsbD_firstBytes _ _ _ hj]
  by_cases hc : 8 * (16 - n) ≤ j
  · have e := congrArg (fun x => x.getLsbD (j % 8)) (h (15 - j / 8) (by omega))
    simp only [getLsbD_byteAt _ _ _ (Nat.mod_lt j (by decide : 0 < 8))] at e
    rw [show 8 * (15 - (15 - j / 8)) + j % 8 = j by omega] at e
    rw [e]
  · simp [hc]

@[simp] theorem blockBytes_length (b : Block) : (blockBytes b).length = 16 := by
  simp [blockBytes]

end Sys2Proof.Machine
end

