-- ==== Sys2Proof/Laws/Effects.lean ====
section
/-! SUPPORT. One lemma for each field of State under the effect of each command: what the command writes,
or that it keeps the field. (CLEAR's effect is clearAll, in Laws/State.lean.) -/

namespace Sys2Proof.Machine

/-! ### the effect of KEYSET (R108) -/

@[simp] theorem keysetEffect_key (s : State) : (keysetEffect s).key = s.key := rfl
@[simp] theorem keysetEffect_din (s : State) : (keysetEffect s).din = s.din := rfl
@[simp] theorem keysetEffect_dout (s : State) : (keysetEffect s).dout = zeroQuad := rfl
@[simp] theorem keysetEffect_tagin (s : State) : (keysetEffect s).tagin = s.tagin := rfl
@[simp] theorem keysetEffect_tagout (s : State) : (keysetEffect s).tagout = zeroQuad := rfl
@[simp] theorem keysetEffect_gmy (s : State) : (keysetEffect s).gmy = s.gmy := rfl
@[simp] theorem keysetEffect_rk (s : State) :
    (keysetEffect s).rk = keySchedule s.tables (keyBlock s) := rfl
@[simp] theorem keysetEffect_h (s : State) :
    (keysetEffect s).h = encrypt s.tables (keySchedule s.tables (keyBlock s)) 0 := rfl
@[simp] theorem keysetEffect_j0 (s : State) : (keysetEffect s).j0 = 0 := rfl
@[simp] theorem keysetEffect_acc (s : State) : (keysetEffect s).acc = 0 := by
  delta keysetEffect; rfl
@[simp] theorem keysetEffect_nraw (s : State) : (keysetEffect s).nraw = 0 := rfl
@[simp] theorem keysetEffect_nbytes (s : State) : (keysetEffect s).nbytes = 0 := rfl
@[simp] theorem keysetEffect_abytes (s : State) : (keysetEffect s).abytes = 0 := rfl
@[simp] theorem keysetEffect_dbytes (s : State) : (keysetEffect s).dbytes = 0 := rfl
@[simp] theorem keysetEffect_dir (s : State) : (keysetEffect s).dir = .encrypt := rfl
@[simp] theorem keysetEffect_phase (s : State) : (keysetEffect s).phase = .nonce := rfl
@[simp] theorem keysetEffect_err (s : State) : (keysetEffect s).err = s.err := rfl
@[simp] theorem keysetEffect_ncl (s : State) : (keysetEffect s).ncl = false := rfl
@[simp] theorem keysetEffect_acl (s : State) : (keysetEffect s).acl = false := rfl
@[simp] theorem keysetEffect_dcl (s : State) : (keysetEffect s).dcl = false := rfl
@[simp] theorem keysetEffect_busy (s : State) : (keysetEffect s).busy = s.busy := rfl
@[simp] theorem keysetEffect_latch (s : State) : (keysetEffect s).latch = s.latch := rfl
@[simp] theorem keysetEffect_tables (s : State) : (keysetEffect s).tables = s.tables := rfl
@[simp] theorem keysetEffect_pBase (s : State) : (keysetEffect s).pBase = s.pBase := rfl
@[simp] theorem keysetEffect_agenda (s : State) : (keysetEffect s).agenda = s.agenda := rfl
@[simp] theorem keysetEffect_replies (s : State) : (keysetEffect s).replies = s.replies := rfl
@[simp] theorem keysetEffect_freeCount (s : State) : (keysetEffect s).freeCount = s.freeCount := rfl

/-! ### the effect of NONCE (R142) -/

@[simp] theorem nonceEffect_key (n : Nat) (s : State) : (nonceEffect n s).key = s.key := rfl
@[simp] theorem nonceEffect_din (n : Nat) (s : State) : (nonceEffect n s).din = s.din := rfl
@[simp] theorem nonceEffect_dout (n : Nat) (s : State) : (nonceEffect n s).dout = s.dout := rfl
@[simp] theorem nonceEffect_tagin (n : Nat) (s : State) : (nonceEffect n s).tagin = s.tagin := rfl
@[simp] theorem nonceEffect_tagout (n : Nat) (s : State) :
    (nonceEffect n s).tagout = s.tagout := rfl
@[simp] theorem nonceEffect_gmy (n : Nat) (s : State) : (nonceEffect n s).gmy = s.gmy := rfl
@[simp] theorem nonceEffect_rk (n : Nat) (s : State) : (nonceEffect n s).rk = s.rk := rfl
@[simp] theorem nonceEffect_h (n : Nat) (s : State) : (nonceEffect n s).h = s.h := rfl
@[simp] theorem nonceEffect_j0 (n : Nat) (s : State) : (nonceEffect n s).j0 = s.j0 := rfl
@[simp] theorem nonceEffect_acc (n : Nat) (s : State) :
    (nonceEffect n s).acc = fold s.h s.acc (dinBytes n s) := by
  delta nonceEffect; rfl
@[simp] theorem nonceEffect_nraw (n : Nat) (s : State) :
    (nonceEffect n s).nraw = if s.nbytes = 0 then (dinBytes n s).extractLsb' 32 96 else s.nraw := rfl
@[simp] theorem nonceEffect_nbytes (n : Nat) (s : State) :
    (nonceEffect n s).nbytes = countBytes s.nbytes n := rfl
@[simp] theorem nonceEffect_abytes (n : Nat) (s : State) :
    (nonceEffect n s).abytes = s.abytes := rfl
@[simp] theorem nonceEffect_dbytes (n : Nat) (s : State) :
    (nonceEffect n s).dbytes = s.dbytes := rfl
@[simp] theorem nonceEffect_dir (n : Nat) (s : State) : (nonceEffect n s).dir = s.dir := rfl
@[simp] theorem nonceEffect_phase (n : Nat) (s : State) : (nonceEffect n s).phase = s.phase := rfl
@[simp] theorem nonceEffect_err (n : Nat) (s : State) : (nonceEffect n s).err = s.err := rfl
@[simp] theorem nonceEffect_ncl (n : Nat) (s : State) :
    (nonceEffect n s).ncl = closedAfter s.ncl n := rfl
@[simp] theorem nonceEffect_acl (n : Nat) (s : State) : (nonceEffect n s).acl = s.acl := rfl
@[simp] theorem nonceEffect_dcl (n : Nat) (s : State) : (nonceEffect n s).dcl = s.dcl := rfl
@[simp] theorem nonceEffect_busy (n : Nat) (s : State) : (nonceEffect n s).busy = s.busy := rfl
@[simp] theorem nonceEffect_latch (n : Nat) (s : State) : (nonceEffect n s).latch = s.latch := rfl
@[simp] theorem nonceEffect_tables (n : Nat) (s : State) :
    (nonceEffect n s).tables = s.tables := rfl
@[simp] theorem nonceEffect_pBase (n : Nat) (s : State) : (nonceEffect n s).pBase = s.pBase := rfl
@[simp] theorem nonceEffect_agenda (n : Nat) (s : State) :
    (nonceEffect n s).agenda = s.agenda := rfl
@[simp] theorem nonceEffect_replies (n : Nat) (s : State) :
    (nonceEffect n s).replies = s.replies := rfl
@[simp] theorem nonceEffect_freeCount (n : Nat) (s : State) :
    (nonceEffect n s).freeCount = s.freeCount := rfl

/-! ### the effect of START (R143) -/

@[simp] theorem startEffect_key (d : Direction) (s : State) : (startEffect d s).key = s.key := rfl
@[simp] theorem startEffect_din (d : Direction) (s : State) : (startEffect d s).din = s.din := rfl
@[simp] theorem startEffect_dout (d : Direction) (s : State) :
    (startEffect d s).dout = s.dout := rfl
@[simp] theorem startEffect_tagin (d : Direction) (s : State) :
    (startEffect d s).tagin = s.tagin := rfl
@[simp] theorem startEffect_tagout (d : Direction) (s : State) :
    (startEffect d s).tagout = s.tagout := rfl
@[simp] theorem startEffect_gmy (d : Direction) (s : State) : (startEffect d s).gmy = s.gmy := rfl
@[simp] theorem startEffect_rk (d : Direction) (s : State) : (startEffect d s).rk = s.rk := rfl
@[simp] theorem startEffect_h (d : Direction) (s : State) : (startEffect d s).h = s.h := rfl
@[simp] theorem startEffect_j0 (d : Direction) (s : State) : (startEffect d s).j0 = startJ0 s := rfl
@[simp] theorem startEffect_acc (d : Direction) (s : State) : (startEffect d s).acc = 0 := rfl
@[simp] theorem startEffect_nraw (d : Direction) (s : State) :
    (startEffect d s).nraw = s.nraw := rfl
@[simp] theorem startEffect_nbytes (d : Direction) (s : State) :
    (startEffect d s).nbytes = s.nbytes := rfl
@[simp] theorem startEffect_abytes (d : Direction) (s : State) :
    (startEffect d s).abytes = s.abytes := rfl
@[simp] theorem startEffect_dbytes (d : Direction) (s : State) :
    (startEffect d s).dbytes = s.dbytes := rfl
@[simp] theorem startEffect_dir (d : Direction) (s : State) : (startEffect d s).dir = d := rfl
@[simp] theorem startEffect_phase (d : Direction) (s : State) :
    (startEffect d s).phase = .aad := rfl
@[simp] theorem startEffect_err (d : Direction) (s : State) : (startEffect d s).err = s.err := rfl
@[simp] theorem startEffect_ncl (d : Direction) (s : State) : (startEffect d s).ncl = s.ncl := rfl
@[simp] theorem startEffect_acl (d : Direction) (s : State) : (startEffect d s).acl = s.acl := rfl
@[simp] theorem startEffect_dcl (d : Direction) (s : State) : (startEffect d s).dcl = s.dcl := rfl
@[simp] theorem startEffect_busy (d : Direction) (s : State) :
    (startEffect d s).busy = s.busy := rfl
@[simp] theorem startEffect_latch (d : Direction) (s : State) :
    (startEffect d s).latch = s.latch := rfl
@[simp] theorem startEffect_tables (d : Direction) (s : State) :
    (startEffect d s).tables = s.tables := rfl
@[simp] theorem startEffect_pBase (d : Direction) (s : State) :
    (startEffect d s).pBase = s.pBase := rfl
@[simp] theorem startEffect_agenda (d : Direction) (s : State) :
    (startEffect d s).agenda = s.agenda := rfl
@[simp] theorem startEffect_replies (d : Direction) (s : State) :
    (startEffect d s).replies = s.replies := rfl
@[simp] theorem startEffect_freeCount (d : Direction) (s : State) :
    (startEffect d s).freeCount = s.freeCount := rfl

/-! ### the effect of AAD (R126) -/

@[simp] theorem aadEffect_key (n : Nat) (s : State) : (aadEffect n s).key = s.key := rfl
@[simp] theorem aadEffect_din (n : Nat) (s : State) : (aadEffect n s).din = s.din := rfl
@[simp] theorem aadEffect_dout (n : Nat) (s : State) : (aadEffect n s).dout = s.dout := rfl
@[simp] theorem aadEffect_tagin (n : Nat) (s : State) : (aadEffect n s).tagin = s.tagin := rfl
@[simp] theorem aadEffect_tagout (n : Nat) (s : State) : (aadEffect n s).tagout = s.tagout := rfl
@[simp] theorem aadEffect_gmy (n : Nat) (s : State) : (aadEffect n s).gmy = s.gmy := rfl
@[simp] theorem aadEffect_rk (n : Nat) (s : State) : (aadEffect n s).rk = s.rk := rfl
@[simp] theorem aadEffect_h (n : Nat) (s : State) : (aadEffect n s).h = s.h := rfl
@[simp] theorem aadEffect_j0 (n : Nat) (s : State) : (aadEffect n s).j0 = s.j0 := rfl
@[simp] theorem aadEffect_acc (n : Nat) (s : State) :
    (aadEffect n s).acc = fold s.h s.acc (dinBytes n s) := by
  delta aadEffect; rfl
@[simp] theorem aadEffect_nraw (n : Nat) (s : State) : (aadEffect n s).nraw = s.nraw := rfl
@[simp] theorem aadEffect_nbytes (n : Nat) (s : State) : (aadEffect n s).nbytes = s.nbytes := rfl
@[simp] theorem aadEffect_abytes (n : Nat) (s : State) :
    (aadEffect n s).abytes = countBytes s.abytes n := rfl
@[simp] theorem aadEffect_dbytes (n : Nat) (s : State) : (aadEffect n s).dbytes = s.dbytes := rfl
@[simp] theorem aadEffect_dir (n : Nat) (s : State) : (aadEffect n s).dir = s.dir := rfl
@[simp] theorem aadEffect_phase (n : Nat) (s : State) : (aadEffect n s).phase = s.phase := rfl
@[simp] theorem aadEffect_err (n : Nat) (s : State) : (aadEffect n s).err = s.err := rfl
@[simp] theorem aadEffect_ncl (n : Nat) (s : State) : (aadEffect n s).ncl = s.ncl := rfl
@[simp] theorem aadEffect_acl (n : Nat) (s : State) :
    (aadEffect n s).acl = closedAfter s.acl n := rfl
@[simp] theorem aadEffect_dcl (n : Nat) (s : State) : (aadEffect n s).dcl = s.dcl := rfl
@[simp] theorem aadEffect_busy (n : Nat) (s : State) : (aadEffect n s).busy = s.busy := rfl
@[simp] theorem aadEffect_latch (n : Nat) (s : State) : (aadEffect n s).latch = s.latch := rfl
@[simp] theorem aadEffect_tables (n : Nat) (s : State) : (aadEffect n s).tables = s.tables := rfl
@[simp] theorem aadEffect_pBase (n : Nat) (s : State) : (aadEffect n s).pBase = s.pBase := rfl
@[simp] theorem aadEffect_agenda (n : Nat) (s : State) : (aadEffect n s).agenda = s.agenda := rfl
@[simp] theorem aadEffect_replies (n : Nat) (s : State) : (aadEffect n s).replies = s.replies := rfl
@[simp] theorem aadEffect_freeCount (n : Nat) (s : State) :
    (aadEffect n s).freeCount = s.freeCount := rfl

/-! ### the effect of DATA (R146) -/

@[simp] theorem dataEffect_key (n : Nat) (s : State) : (dataEffect n s).key = s.key := rfl
@[simp] theorem dataEffect_din (n : Nat) (s : State) : (dataEffect n s).din = s.din := rfl
@[simp] theorem dataEffect_dout (n : Nat) (s : State) :
    (dataEffect n s).dout = blockQuad (dataOut n s) := rfl
@[simp] theorem dataEffect_tagin (n : Nat) (s : State) : (dataEffect n s).tagin = s.tagin := rfl
@[simp] theorem dataEffect_tagout (n : Nat) (s : State) : (dataEffect n s).tagout = s.tagout := rfl
@[simp] theorem dataEffect_gmy (n : Nat) (s : State) : (dataEffect n s).gmy = s.gmy := rfl
@[simp] theorem dataEffect_rk (n : Nat) (s : State) : (dataEffect n s).rk = s.rk := rfl
@[simp] theorem dataEffect_h (n : Nat) (s : State) : (dataEffect n s).h = s.h := rfl
@[simp] theorem dataEffect_j0 (n : Nat) (s : State) : (dataEffect n s).j0 = s.j0 := rfl
@[simp] theorem dataEffect_acc (n : Nat) (s : State) :
    (dataEffect n s).acc = fold s.h s.acc (dataCiphertext n s) := by
  delta dataEffect; rfl
@[simp] theorem dataEffect_nraw (n : Nat) (s : State) : (dataEffect n s).nraw = s.nraw := rfl
@[simp] theorem dataEffect_nbytes (n : Nat) (s : State) : (dataEffect n s).nbytes = s.nbytes := rfl
@[simp] theorem dataEffect_abytes (n : Nat) (s : State) : (dataEffect n s).abytes = s.abytes := rfl
@[simp] theorem dataEffect_dbytes (n : Nat) (s : State) :
    (dataEffect n s).dbytes = countBytes s.dbytes n := rfl
@[simp] theorem dataEffect_dir (n : Nat) (s : State) : (dataEffect n s).dir = s.dir := rfl
@[simp] theorem dataEffect_phase (n : Nat) (s : State) : (dataEffect n s).phase = .data := rfl
@[simp] theorem dataEffect_err (n : Nat) (s : State) : (dataEffect n s).err = s.err := rfl
@[simp] theorem dataEffect_ncl (n : Nat) (s : State) : (dataEffect n s).ncl = s.ncl := rfl
@[simp] theorem dataEffect_acl (n : Nat) (s : State) : (dataEffect n s).acl = s.acl := rfl
@[simp] theorem dataEffect_dcl (n : Nat) (s : State) :
    (dataEffect n s).dcl = closedAfter s.dcl n := rfl
@[simp] theorem dataEffect_busy (n : Nat) (s : State) : (dataEffect n s).busy = s.busy := rfl
@[simp] theorem dataEffect_latch (n : Nat) (s : State) : (dataEffect n s).latch = s.latch := rfl
@[simp] theorem dataEffect_tables (n : Nat) (s : State) : (dataEffect n s).tables = s.tables := rfl
@[simp] theorem dataEffect_pBase (n : Nat) (s : State) : (dataEffect n s).pBase = s.pBase := rfl
@[simp] theorem dataEffect_agenda (n : Nat) (s : State) : (dataEffect n s).agenda = s.agenda := rfl
@[simp] theorem dataEffect_replies (n : Nat) (s : State) :
    (dataEffect n s).replies = s.replies := rfl
@[simp] theorem dataEffect_freeCount (n : Nat) (s : State) :
    (dataEffect n s).freeCount = s.freeCount := rfl

/-! ### the effect of FINAL (R163) -/

@[simp] theorem finalEffect_key (n : Nat) (s : State) : (finalEffect n s).key = s.key := rfl
@[simp] theorem finalEffect_din (n : Nat) (s : State) : (finalEffect n s).din = s.din := rfl
@[simp] theorem finalEffect_dout (n : Nat) (s : State) : (finalEffect n s).dout = s.dout := rfl
@[simp] theorem finalEffect_tagin (n : Nat) (s : State) : (finalEffect n s).tagin = s.tagin := rfl
@[simp] theorem finalEffect_tagout (n : Nat) (s : State) :
    (finalEffect n s).tagout = blockQuad (firstBytes n (fullTag s)) := rfl
@[simp] theorem finalEffect_gmy (n : Nat) (s : State) : (finalEffect n s).gmy = s.gmy := rfl
@[simp] theorem finalEffect_rk (n : Nat) (s : State) : (finalEffect n s).rk = s.rk := rfl
@[simp] theorem finalEffect_h (n : Nat) (s : State) : (finalEffect n s).h = s.h := rfl
@[simp] theorem finalEffect_j0 (n : Nat) (s : State) : (finalEffect n s).j0 = s.j0 := rfl
@[simp] theorem finalEffect_acc (n : Nat) (s : State) : (finalEffect n s).acc = finalAcc s := by
  delta finalEffect; rfl
@[simp] theorem finalEffect_nraw (n : Nat) (s : State) : (finalEffect n s).nraw = s.nraw := rfl
@[simp] theorem finalEffect_nbytes (n : Nat) (s : State) :
    (finalEffect n s).nbytes = s.nbytes := rfl
@[simp] theorem finalEffect_abytes (n : Nat) (s : State) :
    (finalEffect n s).abytes = s.abytes := rfl
@[simp] theorem finalEffect_dbytes (n : Nat) (s : State) :
    (finalEffect n s).dbytes = s.dbytes := rfl
@[simp] theorem finalEffect_dir (n : Nat) (s : State) : (finalEffect n s).dir = s.dir := rfl
@[simp] theorem finalEffect_phase (n : Nat) (s : State) :
    (finalEffect n s).phase = .finalized := rfl
@[simp] theorem finalEffect_err (n : Nat) (s : State) : (finalEffect n s).err = s.err := rfl
@[simp] theorem finalEffect_ncl (n : Nat) (s : State) : (finalEffect n s).ncl = s.ncl := rfl
@[simp] theorem finalEffect_acl (n : Nat) (s : State) : (finalEffect n s).acl = s.acl := rfl
@[simp] theorem finalEffect_dcl (n : Nat) (s : State) : (finalEffect n s).dcl = s.dcl := rfl
@[simp] theorem finalEffect_busy (n : Nat) (s : State) : (finalEffect n s).busy = s.busy := rfl
@[simp] theorem finalEffect_latch (n : Nat) (s : State) : (finalEffect n s).latch = s.latch := rfl
@[simp] theorem finalEffect_tables (n : Nat) (s : State) :
    (finalEffect n s).tables = s.tables := rfl
@[simp] theorem finalEffect_pBase (n : Nat) (s : State) : (finalEffect n s).pBase = s.pBase := rfl
@[simp] theorem finalEffect_agenda (n : Nat) (s : State) :
    (finalEffect n s).agenda = s.agenda := rfl
@[simp] theorem finalEffect_replies (n : Nat) (s : State) :
    (finalEffect n s).replies = s.replies := rfl
@[simp] theorem finalEffect_freeCount (n : Nat) (s : State) :
    (finalEffect n s).freeCount = s.freeCount := rfl

/-! ### the effect of VERIFY (R164) -/

@[simp] theorem verifyEffect_key (n : Nat) (s : State) : (verifyEffect n s).key = s.key := rfl
@[simp] theorem verifyEffect_din (n : Nat) (s : State) : (verifyEffect n s).din = s.din := rfl
@[simp] theorem verifyEffect_dout (n : Nat) (s : State) :
    (verifyEffect n s).dout = if tagsMatch n s then s.dout else zeroQuad := rfl
@[simp] theorem verifyEffect_tagin (n : Nat) (s : State) : (verifyEffect n s).tagin = s.tagin := rfl
@[simp] theorem verifyEffect_tagout (n : Nat) (s : State) :
    (verifyEffect n s).tagout = zeroQuad := rfl
@[simp] theorem verifyEffect_gmy (n : Nat) (s : State) : (verifyEffect n s).gmy = s.gmy := rfl
@[simp] theorem verifyEffect_rk (n : Nat) (s : State) : (verifyEffect n s).rk = s.rk := rfl
@[simp] theorem verifyEffect_h (n : Nat) (s : State) : (verifyEffect n s).h = s.h := rfl
@[simp] theorem verifyEffect_j0 (n : Nat) (s : State) : (verifyEffect n s).j0 = s.j0 := rfl
@[simp] theorem verifyEffect_acc (n : Nat) (s : State) : (verifyEffect n s).acc = finalAcc s := by
  delta verifyEffect; rfl
@[simp] theorem verifyEffect_nraw (n : Nat) (s : State) : (verifyEffect n s).nraw = s.nraw := rfl
@[simp] theorem verifyEffect_nbytes (n : Nat) (s : State) :
    (verifyEffect n s).nbytes = s.nbytes := rfl
@[simp] theorem verifyEffect_abytes (n : Nat) (s : State) :
    (verifyEffect n s).abytes = s.abytes := rfl
@[simp] theorem verifyEffect_dbytes (n : Nat) (s : State) :
    (verifyEffect n s).dbytes = s.dbytes := rfl
@[simp] theorem verifyEffect_dir (n : Nat) (s : State) : (verifyEffect n s).dir = s.dir := rfl
@[simp] theorem verifyEffect_phase (n : Nat) (s : State) :
    (verifyEffect n s).phase = .finalized := rfl
@[simp] theorem verifyEffect_err (n : Nat) (s : State) :
    (verifyEffect n s).err = if tagsMatch n s then .none else .authenticationFailure := rfl
@[simp] theorem verifyEffect_ncl (n : Nat) (s : State) : (verifyEffect n s).ncl = s.ncl := rfl
@[simp] theorem verifyEffect_acl (n : Nat) (s : State) : (verifyEffect n s).acl = s.acl := rfl
@[simp] theorem verifyEffect_dcl (n : Nat) (s : State) : (verifyEffect n s).dcl = s.dcl := rfl
@[simp] theorem verifyEffect_busy (n : Nat) (s : State) : (verifyEffect n s).busy = s.busy := rfl
@[simp] theorem verifyEffect_latch (n : Nat) (s : State) : (verifyEffect n s).latch = s.latch := rfl
@[simp] theorem verifyEffect_tables (n : Nat) (s : State) :
    (verifyEffect n s).tables = s.tables := rfl
@[simp] theorem verifyEffect_pBase (n : Nat) (s : State) : (verifyEffect n s).pBase = s.pBase := rfl
@[simp] theorem verifyEffect_agenda (n : Nat) (s : State) :
    (verifyEffect n s).agenda = s.agenda := rfl
@[simp] theorem verifyEffect_replies (n : Nat) (s : State) :
    (verifyEffect n s).replies = s.replies := rfl
@[simp] theorem verifyEffect_freeCount (n : Nat) (s : State) :
    (verifyEffect n s).freeCount = s.freeCount := rfl

/-! ### the effect of ECB (R109) -/

@[simp] theorem ecbEffect_key (s : State) : (ecbEffect s).key = s.key := rfl
@[simp] theorem ecbEffect_din (s : State) : (ecbEffect s).din = s.din := rfl
@[simp] theorem ecbEffect_dout (s : State) :
    (ecbEffect s).dout = blockQuad (encrypt s.tables s.rk (dinBlock s)) := rfl
@[simp] theorem ecbEffect_tagin (s : State) : (ecbEffect s).tagin = s.tagin := rfl
@[simp] theorem ecbEffect_tagout (s : State) : (ecbEffect s).tagout = s.tagout := rfl
@[simp] theorem ecbEffect_gmy (s : State) : (ecbEffect s).gmy = s.gmy := rfl
@[simp] theorem ecbEffect_rk (s : State) : (ecbEffect s).rk = s.rk := rfl
@[simp] theorem ecbEffect_h (s : State) : (ecbEffect s).h = s.h := rfl
@[simp] theorem ecbEffect_j0 (s : State) : (ecbEffect s).j0 = s.j0 := rfl
@[simp] theorem ecbEffect_acc (s : State) : (ecbEffect s).acc = s.acc := by
  delta ecbEffect; rfl
@[simp] theorem ecbEffect_nraw (s : State) : (ecbEffect s).nraw = s.nraw := rfl
@[simp] theorem ecbEffect_nbytes (s : State) : (ecbEffect s).nbytes = s.nbytes := rfl
@[simp] theorem ecbEffect_abytes (s : State) : (ecbEffect s).abytes = s.abytes := rfl
@[simp] theorem ecbEffect_dbytes (s : State) : (ecbEffect s).dbytes = s.dbytes := rfl
@[simp] theorem ecbEffect_dir (s : State) : (ecbEffect s).dir = s.dir := rfl
@[simp] theorem ecbEffect_phase (s : State) : (ecbEffect s).phase = s.phase := rfl
@[simp] theorem ecbEffect_err (s : State) : (ecbEffect s).err = s.err := rfl
@[simp] theorem ecbEffect_ncl (s : State) : (ecbEffect s).ncl = s.ncl := rfl
@[simp] theorem ecbEffect_acl (s : State) : (ecbEffect s).acl = s.acl := rfl
@[simp] theorem ecbEffect_dcl (s : State) : (ecbEffect s).dcl = s.dcl := rfl
@[simp] theorem ecbEffect_busy (s : State) : (ecbEffect s).busy = s.busy := rfl
@[simp] theorem ecbEffect_latch (s : State) : (ecbEffect s).latch = s.latch := rfl
@[simp] theorem ecbEffect_tables (s : State) : (ecbEffect s).tables = s.tables := rfl
@[simp] theorem ecbEffect_pBase (s : State) : (ecbEffect s).pBase = s.pBase := rfl
@[simp] theorem ecbEffect_agenda (s : State) : (ecbEffect s).agenda = s.agenda := rfl
@[simp] theorem ecbEffect_replies (s : State) : (ecbEffect s).replies = s.replies := rfl
@[simp] theorem ecbEffect_freeCount (s : State) : (ecbEffect s).freeCount = s.freeCount := rfl

/-! ### the effect of GMUL (R127) -/

@[simp] theorem gmulEffect_key (s : State) : (gmulEffect s).key = s.key := rfl
@[simp] theorem gmulEffect_din (s : State) : (gmulEffect s).din = s.din := rfl
@[simp] theorem gmulEffect_dout (s : State) :
    (gmulEffect s).dout = blockQuad (multiply (dinBlock s) (gmyBlock s)) := rfl
@[simp] theorem gmulEffect_tagin (s : State) : (gmulEffect s).tagin = s.tagin := rfl
@[simp] theorem gmulEffect_tagout (s : State) : (gmulEffect s).tagout = s.tagout := rfl
@[simp] theorem gmulEffect_gmy (s : State) : (gmulEffect s).gmy = s.gmy := rfl
@[simp] theorem gmulEffect_rk (s : State) : (gmulEffect s).rk = s.rk := rfl
@[simp] theorem gmulEffect_h (s : State) : (gmulEffect s).h = s.h := rfl
@[simp] theorem gmulEffect_j0 (s : State) : (gmulEffect s).j0 = s.j0 := rfl
@[simp] theorem gmulEffect_acc (s : State) : (gmulEffect s).acc = s.acc := by
  delta gmulEffect; rfl
@[simp] theorem gmulEffect_nraw (s : State) : (gmulEffect s).nraw = s.nraw := rfl
@[simp] theorem gmulEffect_nbytes (s : State) : (gmulEffect s).nbytes = s.nbytes := rfl
@[simp] theorem gmulEffect_abytes (s : State) : (gmulEffect s).abytes = s.abytes := rfl
@[simp] theorem gmulEffect_dbytes (s : State) : (gmulEffect s).dbytes = s.dbytes := rfl
@[simp] theorem gmulEffect_dir (s : State) : (gmulEffect s).dir = s.dir := rfl
@[simp] theorem gmulEffect_phase (s : State) : (gmulEffect s).phase = s.phase := rfl
@[simp] theorem gmulEffect_err (s : State) : (gmulEffect s).err = s.err := rfl
@[simp] theorem gmulEffect_ncl (s : State) : (gmulEffect s).ncl = s.ncl := rfl
@[simp] theorem gmulEffect_acl (s : State) : (gmulEffect s).acl = s.acl := rfl
@[simp] theorem gmulEffect_dcl (s : State) : (gmulEffect s).dcl = s.dcl := rfl
@[simp] theorem gmulEffect_busy (s : State) : (gmulEffect s).busy = s.busy := rfl
@[simp] theorem gmulEffect_latch (s : State) : (gmulEffect s).latch = s.latch := rfl
@[simp] theorem gmulEffect_tables (s : State) : (gmulEffect s).tables = s.tables := rfl
@[simp] theorem gmulEffect_pBase (s : State) : (gmulEffect s).pBase = s.pBase := rfl
@[simp] theorem gmulEffect_agenda (s : State) : (gmulEffect s).agenda = s.agenda := rfl
@[simp] theorem gmulEffect_replies (s : State) : (gmulEffect s).replies = s.replies := rfl
@[simp] theorem gmulEffect_freeCount (s : State) : (gmulEffect s).freeCount = s.freeCount := rfl

end Sys2Proof.Machine
end

