-- ==== Sys2Proof/Laws/State.lean ====
section
/-! SUPPORT. One lemma for each field of State under each shared update: what the update puts there, or
that it keeps the field. -/

namespace Sys2Proof.Machine

/-! ### issuing a command (R223) -/

@[simp] theorem issue_key (w : Word) (s : State) : (issue w s).key = s.key := rfl
@[simp] theorem issue_din (w : Word) (s : State) : (issue w s).din = s.din := rfl
@[simp] theorem issue_dout (w : Word) (s : State) : (issue w s).dout = s.dout := rfl
@[simp] theorem issue_tagin (w : Word) (s : State) : (issue w s).tagin = s.tagin := rfl
@[simp] theorem issue_tagout (w : Word) (s : State) : (issue w s).tagout = s.tagout := rfl
@[simp] theorem issue_gmy (w : Word) (s : State) : (issue w s).gmy = s.gmy := rfl
@[simp] theorem issue_rk (w : Word) (s : State) : (issue w s).rk = s.rk := rfl
@[simp] theorem issue_h (w : Word) (s : State) : (issue w s).h = s.h := rfl
@[simp] theorem issue_j0 (w : Word) (s : State) : (issue w s).j0 = s.j0 := rfl
@[simp] theorem issue_acc (w : Word) (s : State) : (issue w s).acc = s.acc := rfl
@[simp] theorem issue_nraw (w : Word) (s : State) : (issue w s).nraw = s.nraw := rfl
@[simp] theorem issue_nbytes (w : Word) (s : State) : (issue w s).nbytes = s.nbytes := rfl
@[simp] theorem issue_abytes (w : Word) (s : State) : (issue w s).abytes = s.abytes := rfl
@[simp] theorem issue_dbytes (w : Word) (s : State) : (issue w s).dbytes = s.dbytes := rfl
@[simp] theorem issue_dir (w : Word) (s : State) : (issue w s).dir = s.dir := rfl
@[simp] theorem issue_phase (w : Word) (s : State) : (issue w s).phase = s.phase := rfl
@[simp] theorem issue_err (w : Word) (s : State) : (issue w s).err = s.err := rfl
@[simp] theorem issue_ncl (w : Word) (s : State) : (issue w s).ncl = s.ncl := rfl
@[simp] theorem issue_acl (w : Word) (s : State) : (issue w s).acl = s.acl := rfl
@[simp] theorem issue_dcl (w : Word) (s : State) : (issue w s).dcl = s.dcl := rfl
@[simp] theorem issue_busy (w : Word) (s : State) : (issue w s).busy = true := rfl
@[simp] theorem issue_latch (w : Word) (s : State) : (issue w s).latch = w := rfl
@[simp] theorem issue_tables (w : Word) (s : State) : (issue w s).tables = s.tables := rfl
@[simp] theorem issue_pBase (w : Word) (s : State) : (issue w s).pBase = s.pBase := rfl
@[simp] theorem issue_agenda (w : Word) (s : State) : (issue w s).agenda = s.agenda := rfl
@[simp] theorem issue_replies (w : Word) (s : State) : (issue w s).replies = s.replies := rfl
@[simp] theorem issue_freeCount (w : Word) (s : State) : (issue w s).freeCount = s.freeCount := rfl

/-! ### completing a command (R223) -/

@[simp] theorem finish_key (s : State) : (finish s).key = s.key := rfl
@[simp] theorem finish_din (s : State) : (finish s).din = s.din := rfl
@[simp] theorem finish_dout (s : State) : (finish s).dout = s.dout := rfl
@[simp] theorem finish_tagin (s : State) : (finish s).tagin = s.tagin := rfl
@[simp] theorem finish_tagout (s : State) : (finish s).tagout = s.tagout := rfl
@[simp] theorem finish_gmy (s : State) : (finish s).gmy = s.gmy := rfl
@[simp] theorem finish_rk (s : State) : (finish s).rk = s.rk := rfl
@[simp] theorem finish_h (s : State) : (finish s).h = s.h := rfl
@[simp] theorem finish_j0 (s : State) : (finish s).j0 = s.j0 := rfl
@[simp] theorem finish_acc (s : State) : (finish s).acc = s.acc := rfl
@[simp] theorem finish_nraw (s : State) : (finish s).nraw = s.nraw := rfl
@[simp] theorem finish_nbytes (s : State) : (finish s).nbytes = s.nbytes := rfl
@[simp] theorem finish_abytes (s : State) : (finish s).abytes = s.abytes := rfl
@[simp] theorem finish_dbytes (s : State) : (finish s).dbytes = s.dbytes := rfl
@[simp] theorem finish_dir (s : State) : (finish s).dir = s.dir := rfl
@[simp] theorem finish_phase (s : State) : (finish s).phase = s.phase := rfl
@[simp] theorem finish_err (s : State) : (finish s).err = s.err := rfl
@[simp] theorem finish_ncl (s : State) : (finish s).ncl = s.ncl := rfl
@[simp] theorem finish_acl (s : State) : (finish s).acl = s.acl := rfl
@[simp] theorem finish_dcl (s : State) : (finish s).dcl = s.dcl := rfl
@[simp] theorem finish_busy (s : State) : (finish s).busy = false := rfl
@[simp] theorem finish_latch (s : State) : (finish s).latch = s.latch := rfl
@[simp] theorem finish_tables (s : State) : (finish s).tables = s.tables := rfl
@[simp] theorem finish_pBase (s : State) : (finish s).pBase = s.pBase := rfl
@[simp] theorem finish_agenda (s : State) : (finish s).agenda = s.agenda := rfl
@[simp] theorem finish_replies (s : State) : (finish s).replies = s.replies := rfl
@[simp] theorem finish_freeCount (s : State) : (finish s).freeCount = s.freeCount := rfl

/-! ### clearing the message state (R108) -/

@[simp] theorem clearMessage_key (s : State) : (clearMessage s).key = s.key := rfl
@[simp] theorem clearMessage_din (s : State) : (clearMessage s).din = s.din := rfl
@[simp] theorem clearMessage_dout (s : State) : (clearMessage s).dout = zeroQuad := rfl
@[simp] theorem clearMessage_tagin (s : State) : (clearMessage s).tagin = s.tagin := rfl
@[simp] theorem clearMessage_tagout (s : State) : (clearMessage s).tagout = zeroQuad := rfl
@[simp] theorem clearMessage_gmy (s : State) : (clearMessage s).gmy = s.gmy := rfl
@[simp] theorem clearMessage_rk (s : State) : (clearMessage s).rk = s.rk := rfl
@[simp] theorem clearMessage_h (s : State) : (clearMessage s).h = s.h := rfl
@[simp] theorem clearMessage_j0 (s : State) : (clearMessage s).j0 = 0 := rfl
@[simp] theorem clearMessage_acc (s : State) : (clearMessage s).acc = 0 := rfl
@[simp] theorem clearMessage_nraw (s : State) : (clearMessage s).nraw = 0 := rfl
@[simp] theorem clearMessage_nbytes (s : State) : (clearMessage s).nbytes = 0 := rfl
@[simp] theorem clearMessage_abytes (s : State) : (clearMessage s).abytes = 0 := rfl
@[simp] theorem clearMessage_dbytes (s : State) : (clearMessage s).dbytes = 0 := rfl
@[simp] theorem clearMessage_dir (s : State) : (clearMessage s).dir = .encrypt := rfl
@[simp] theorem clearMessage_phase (s : State) : (clearMessage s).phase = s.phase := rfl
@[simp] theorem clearMessage_err (s : State) : (clearMessage s).err = s.err := rfl
@[simp] theorem clearMessage_ncl (s : State) : (clearMessage s).ncl = false := rfl
@[simp] theorem clearMessage_acl (s : State) : (clearMessage s).acl = false := rfl
@[simp] theorem clearMessage_dcl (s : State) : (clearMessage s).dcl = false := rfl
@[simp] theorem clearMessage_busy (s : State) : (clearMessage s).busy = s.busy := rfl
@[simp] theorem clearMessage_latch (s : State) : (clearMessage s).latch = s.latch := rfl
@[simp] theorem clearMessage_tables (s : State) : (clearMessage s).tables = s.tables := rfl
@[simp] theorem clearMessage_pBase (s : State) : (clearMessage s).pBase = s.pBase := rfl
@[simp] theorem clearMessage_agenda (s : State) : (clearMessage s).agenda = s.agenda := rfl
@[simp] theorem clearMessage_replies (s : State) : (clearMessage s).replies = s.replies := rfl
@[simp] theorem clearMessage_freeCount (s : State) : (clearMessage s).freeCount = s.freeCount := rfl

/-! ### discarding the context (R202) -/

@[simp] theorem discardContext_key (s : State) : (discardContext s).key = zeroQuad := rfl
@[simp] theorem discardContext_din (s : State) : (discardContext s).din = s.din := rfl
@[simp] theorem discardContext_dout (s : State) : (discardContext s).dout = zeroQuad := rfl
@[simp] theorem discardContext_tagin (s : State) : (discardContext s).tagin = s.tagin := rfl
@[simp] theorem discardContext_tagout (s : State) : (discardContext s).tagout = zeroQuad := rfl
@[simp] theorem discardContext_gmy (s : State) : (discardContext s).gmy = s.gmy := rfl
@[simp] theorem discardContext_rk (s : State) : (discardContext s).rk = zeroKeys := rfl
@[simp] theorem discardContext_h (s : State) : (discardContext s).h = 0 := rfl
@[simp] theorem discardContext_j0 (s : State) : (discardContext s).j0 = 0 := rfl
@[simp] theorem discardContext_acc (s : State) : (discardContext s).acc = 0 := rfl
@[simp] theorem discardContext_nraw (s : State) : (discardContext s).nraw = 0 := rfl
@[simp] theorem discardContext_nbytes (s : State) : (discardContext s).nbytes = 0 := rfl
@[simp] theorem discardContext_abytes (s : State) : (discardContext s).abytes = 0 := rfl
@[simp] theorem discardContext_dbytes (s : State) : (discardContext s).dbytes = 0 := rfl
@[simp] theorem discardContext_dir (s : State) : (discardContext s).dir = .encrypt := rfl
@[simp] theorem discardContext_phase (s : State) : (discardContext s).phase = .fresh := rfl
@[simp] theorem discardContext_err (s : State) : (discardContext s).err = s.err := rfl
@[simp] theorem discardContext_ncl (s : State) : (discardContext s).ncl = false := rfl
@[simp] theorem discardContext_acl (s : State) : (discardContext s).acl = false := rfl
@[simp] theorem discardContext_dcl (s : State) : (discardContext s).dcl = false := rfl
@[simp] theorem discardContext_busy (s : State) : (discardContext s).busy = s.busy := rfl
@[simp] theorem discardContext_latch (s : State) : (discardContext s).latch = s.latch := rfl
@[simp] theorem discardContext_tables (s : State) : (discardContext s).tables = s.tables := rfl
@[simp] theorem discardContext_pBase (s : State) : (discardContext s).pBase = s.pBase := rfl
@[simp] theorem discardContext_agenda (s : State) : (discardContext s).agenda = s.agenda := rfl
@[simp] theorem discardContext_replies (s : State) : (discardContext s).replies = s.replies := rfl
@[simp] theorem discardContext_freeCount (s : State) : (discardContext s).freeCount = s.freeCount := rfl

/-! ### CLEAR (R167) -/

@[simp] theorem clearAll_key (s : State) : (clearAll s).key = zeroQuad := rfl
@[simp] theorem clearAll_din (s : State) : (clearAll s).din = zeroQuad := rfl
@[simp] theorem clearAll_dout (s : State) : (clearAll s).dout = zeroQuad := rfl
@[simp] theorem clearAll_tagin (s : State) : (clearAll s).tagin = zeroQuad := rfl
@[simp] theorem clearAll_tagout (s : State) : (clearAll s).tagout = zeroQuad := rfl
@[simp] theorem clearAll_gmy (s : State) : (clearAll s).gmy = zeroQuad := rfl
@[simp] theorem clearAll_rk (s : State) : (clearAll s).rk = zeroKeys := rfl
@[simp] theorem clearAll_h (s : State) : (clearAll s).h = 0 := rfl
@[simp] theorem clearAll_j0 (s : State) : (clearAll s).j0 = 0 := rfl
@[simp] theorem clearAll_acc (s : State) : (clearAll s).acc = 0 := rfl
@[simp] theorem clearAll_nraw (s : State) : (clearAll s).nraw = 0 := rfl
@[simp] theorem clearAll_nbytes (s : State) : (clearAll s).nbytes = 0 := rfl
@[simp] theorem clearAll_abytes (s : State) : (clearAll s).abytes = 0 := rfl
@[simp] theorem clearAll_dbytes (s : State) : (clearAll s).dbytes = 0 := rfl
@[simp] theorem clearAll_dir (s : State) : (clearAll s).dir = .encrypt := rfl
@[simp] theorem clearAll_phase (s : State) : (clearAll s).phase = .fresh := rfl
@[simp] theorem clearAll_err (s : State) : (clearAll s).err = .none := rfl
@[simp] theorem clearAll_ncl (s : State) : (clearAll s).ncl = false := rfl
@[simp] theorem clearAll_acl (s : State) : (clearAll s).acl = false := rfl
@[simp] theorem clearAll_dcl (s : State) : (clearAll s).dcl = false := rfl
@[simp] theorem clearAll_busy (s : State) : (clearAll s).busy = s.busy := rfl
@[simp] theorem clearAll_latch (s : State) : (clearAll s).latch = 0 := rfl
@[simp] theorem clearAll_tables (s : State) : (clearAll s).tables = s.tables := rfl
@[simp] theorem clearAll_pBase (s : State) : (clearAll s).pBase = s.pBase := rfl
@[simp] theorem clearAll_agenda (s : State) : (clearAll s).agenda = s.agenda := rfl
@[simp] theorem clearAll_replies (s : State) : (clearAll s).replies = s.replies := rfl
@[simp] theorem clearAll_freeCount (s : State) : (clearAll s).freeCount = s.freeCount := rfl

/-! ### the reset input (R220) -/

@[simp] theorem assertReset_key (s : State) : (assertReset s).key = zeroQuad := rfl
@[simp] theorem assertReset_din (s : State) : (assertReset s).din = zeroQuad := rfl
@[simp] theorem assertReset_dout (s : State) : (assertReset s).dout = zeroQuad := rfl
@[simp] theorem assertReset_tagin (s : State) : (assertReset s).tagin = zeroQuad := rfl
@[simp] theorem assertReset_tagout (s : State) : (assertReset s).tagout = zeroQuad := rfl
@[simp] theorem assertReset_gmy (s : State) : (assertReset s).gmy = zeroQuad := rfl
@[simp] theorem assertReset_rk (s : State) : (assertReset s).rk = zeroKeys := rfl
@[simp] theorem assertReset_h (s : State) : (assertReset s).h = 0 := rfl
@[simp] theorem assertReset_j0 (s : State) : (assertReset s).j0 = 0 := rfl
@[simp] theorem assertReset_acc (s : State) : (assertReset s).acc = 0 := rfl
@[simp] theorem assertReset_nraw (s : State) : (assertReset s).nraw = 0 := rfl
@[simp] theorem assertReset_nbytes (s : State) : (assertReset s).nbytes = 0 := rfl
@[simp] theorem assertReset_abytes (s : State) : (assertReset s).abytes = 0 := rfl
@[simp] theorem assertReset_dbytes (s : State) : (assertReset s).dbytes = 0 := rfl
@[simp] theorem assertReset_dir (s : State) : (assertReset s).dir = .encrypt := rfl
@[simp] theorem assertReset_phase (s : State) : (assertReset s).phase = .fresh := rfl
@[simp] theorem assertReset_err (s : State) : (assertReset s).err = .none := rfl
@[simp] theorem assertReset_ncl (s : State) : (assertReset s).ncl = false := rfl
@[simp] theorem assertReset_acl (s : State) : (assertReset s).acl = false := rfl
@[simp] theorem assertReset_dcl (s : State) : (assertReset s).dcl = false := rfl
@[simp] theorem assertReset_busy (s : State) : (assertReset s).busy = false := rfl
@[simp] theorem assertReset_latch (s : State) : (assertReset s).latch = 0 := rfl
@[simp] theorem assertReset_tables (s : State) : (assertReset s).tables = s.tables := rfl
@[simp] theorem assertReset_pBase (s : State) : (assertReset s).pBase = s.pBase := rfl
@[simp] theorem assertReset_agenda (s : State) : (assertReset s).agenda = s.agenda := rfl
@[simp] theorem assertReset_replies (s : State) : (assertReset s).replies = s.replies := rfl
@[simp] theorem assertReset_freeCount (s : State) : (assertReset s).freeCount = s.freeCount := rfl

end Sys2Proof.Machine
end

