-- ==== Sys2Proof/Laws/Ops.lean ====
section
/-! SUPPORT. What each shared operation can do, said once: the checks, rejection, a command's run, the
step Complete, a turn and a step. Later proofs cite these and do not unfold the operations. -/

namespace Sys2Proof.Machine

/-! ### The checks (R201) -/

/-- All checks pass exactly where the LEN is legal, the command is permitted and within its limit. -/
theorem check_eq_none {i : Instr} {s : State} :
    check i s = none ↔ lenError i = none ∧ permitted i s = true ∧ overLimit i s = false := by
  unfold check
  cases lenError i <;> cases permitted i s <;> cases overLimit i s <;> simp

/-- A failing check reports the LEN's error, or USAGE_ERROR for a command that is not permitted, or
LIMIT_EXCEEDED for one that is, in that order. -/
theorem check_eq_some {i : Instr} {s : State} {e : ErrCode} :
    check i s = some e ↔
      lenError i = some e ∨
      lenError i = none ∧ permitted i s = false ∧ e = .usageError ∨
      lenError i = none ∧ permitted i s = true ∧ overLimit i s = true ∧ e = .limitExceeded := by
  unfold check
  cases lenError i <;> cases permitted i s <;> cases overLimit i s <;> simp [eq_comm]

theorem overLimit_nonce (n : Nat) (s : State) :
    overLimit (.nonce n) s = true ↔ 2 ^ 61 - 1 < s.nbytes.toNat + n := by
  simp [overLimit, nonceMaxBytes]

theorem overLimit_aad (n : Nat) (s : State) :
    overLimit (.aad n) s = true ↔ 2 ^ 61 - 1 < s.abytes.toNat + n := by
  simp [overLimit, aadMaxBytes]

theorem overLimit_data (n : Nat) (s : State) :
    overLimit (.data n) s = true ↔ 2 ^ 36 - 32 < s.dbytes.toNat + n := by
  simp [overLimit, dataMaxBytes]

theorem permitted_nonce (n : Nat) (s : State) :
    permitted (.nonce n) s = true ↔ s.phase = .nonce ∧ s.ncl = false := by simp [permitted]

theorem permitted_start (n : Nat) (d : Direction) (s : State) :
    permitted (.start n d) s = true ↔ s.phase = .nonce ∧ 1 ≤ s.nbytes.toNat := by
  simp [permitted]

theorem permitted_aad (n : Nat) (s : State) :
    permitted (.aad n) s = true ↔ s.phase = .aad ∧ s.acl = false := by simp [permitted]

theorem permitted_data (n : Nat) (s : State) :
    permitted (.data n) s = true ↔ (s.phase = .aad ∨ s.phase = .data) ∧ s.dcl = false := by
  simp [permitted]

theorem permitted_final (n : Nat) (s : State) :
    permitted (.final n) s = true ↔ (s.phase = .aad ∨ s.phase = .data) ∧ s.dir = .encrypt := by
  simp [permitted]

theorem permitted_verify (n : Nat) (s : State) :
    permitted (.verify n) s = true ↔ (s.phase = .aad ∨ s.phase = .data) ∧ s.dir = .decrypt := by
  simp [permitted]

theorem permitted_ecb (n : Nat) (s : State) :
    permitted (.ecb n) s = true ↔ s.phase ≠ .fresh := by simp [permitted]

/-- A LEN's error is INVALID_KEY_LENGTH for KEYSET with LEN ≠ 16, and otherwise USAGE_ERROR (R73). -/
theorem lenError_eq_some {i : Instr} {e : ErrCode} (h : lenError i = some e) :
    e = .invalidKeyLength ∧ (∃ n, n ≠ 16 ∧ i = .keyset n) ∨
      e = .usageError ∧ ∀ n, i ≠ .keyset n := by
  cases i <;> simp only [lenError] at h <;> split at h <;> simp_all

/-- The codes a failing check can report (R200). -/
theorem check_codes {i : Instr} {s : State} {e : ErrCode} (h : check i s = some e) :
    e = .invalidKeyLength ∧ (∃ n, n ≠ 16 ∧ i = .keyset n) ∨
      (e = .usageError ∨ e = .limitExceeded) ∧ ∀ n, i ≠ .keyset n := by
  rcases check_eq_some.mp h with hl | ⟨_, hp, rfl⟩ | ⟨_, _, ho, rfl⟩
  · rcases lenError_eq_some hl with hl | hl
    · exact .inl hl
    · exact .inr ⟨.inl hl.1, hl.2⟩
  · exact .inr ⟨.inl rfl, fun n hn => by simp [hn, permitted] at hp⟩
  · exact .inr ⟨.inr rfl, fun n hn => by simp [hn, overLimit] at ho⟩

/-! ### Rejection (R202) -/

theorem reject_invalidKeyLength (s : State) :
    reject .invalidKeyLength s = { discardContext s with err := .invalidKeyLength } := rfl

/-- Every rejection but INVALID_KEY_LENGTH writes the phase and ERR alone. -/
theorem reject_of_ne {e : ErrCode} (h : e ≠ .invalidKeyLength) (s : State) :
    reject e s = { s with phase := if inMessage s.phase then .failed else s.phase, err := e } := by
  cases e <;> first | rfl | exact absurd rfl h

/-! ### A command's run -/

/-- The state change of an accepted command (R203). -/
def effectOf : Instr → State → State
  | .keyset _ => keysetEffect
  | .nonce n => nonceEffect n
  | .start _ d => startEffect d
  | .aad n => aadEffect n
  | .data n => dataEffect n
  | .final n => finalEffect n
  | .verify n => verifyEffect n
  | .ecb _ => ecbEffect
  | .gmul _ => gmulEffect
  | .clear _ => clearAll

/-- Every command answers a next state: the checks decide between rejection and its effect. -/
theorem exec_eq (i : Instr) (s : State) : exec i s = .next (perform i (effectOf i) s) := by
  cases i <;> rfl

theorem perform_of_none {i : Instr} {s : State} (h : check i s = none) (f : State → State) :
    perform i f s = f { s with err := .none } := by simp [perform, h]

theorem perform_of_some {i : Instr} {s : State} {e : ErrCode} (h : check i s = some e)
    (f : State → State) : perform i f s = reject e s := by simp [perform, h]

theorem exec_of_none {i : Instr} {s : State} (h : check i s = none) :
    exec i s = .next (effectOf i { s with err := .none }) := by
  rw [exec_eq, perform_of_none h]

theorem exec_of_some {i : Instr} {s : State} {e : ErrCode} (h : check i s = some e) :
    exec i s = .next (reject e s) := by rw [exec_eq, perform_of_some h]

/-- What a command can do: it is rejected with the code of a failing check, or all checks pass and its
effect is applied with ERR set to NONE. -/
theorem exec_cases {i : Instr} {s t : State} (h : exec i s = .next t) :
    (∃ e, check i s = some e ∧ t = reject e s) ∨
      check i s = none ∧ t = effectOf i { s with err := .none } := by
  cases hc : check i s with
  | none => rw [exec_of_none hc] at h; cases h; exact .inr ⟨rfl, rfl⟩
  | some e => rw [exec_of_some hc] at h; cases h; exact .inl ⟨e, rfl, rfl⟩

/-- What no command touches: BUSY, the tables, P_BASE, the model's own fields; and the latch, which CLEAR
alone zeroes (R167). -/
theorem exec_keeps {i : Instr} {s t : State} (h : exec i s = .next t) :
    t.busy = s.busy ∧ (t.latch = s.latch ∨ i = .clear 0 ∧ t.latch = 0) ∧ t.tables = s.tables ∧ t.pBase = s.pBase ∧
      t.agenda = s.agenda ∧ t.replies = s.replies ∧ t.freeCount = s.freeCount := by
  rcases exec_cases h with ⟨e, _, rfl⟩ | ⟨hc, rfl⟩
  · cases e <;> simp [reject]
  · cases i with
    | clear n =>
      have hn : n = 0 := by have := (check_eq_none.mp hc).1; simp [lenError] at this; exact this
      simp [effectOf, hn]
    | _ => simp [effectOf]

/-! ### Complete, a turn, a step (R223) -/

/-- What Complete can do: reject an illegal word, or run the decoded command; then BUSY is clear. -/
theorem complete_cases {s t : State} (h : complete s = .next t) :
    (∃ e, decode s.latch = .error e ∧ t = finish (reject .usageError s)) ∨
      ∃ i u, decode s.latch = .ok i ∧ exec i s = .next u ∧ t = finish u := by
  unfold complete at h
  split at h
  · next e he => cases h; exact .inl ⟨e, he, rfl⟩
  · next i hi => rw [exec_eq] at h; cases h; exact .inr ⟨i, _, hi, exec_eq i s, rfl⟩

/-- Complete always answers a next state, with BUSY clear. -/
theorem complete_next (s : State) : ∃ t, complete s = .next t ∧ t.busy = false := by
  unfold complete
  split
  · exact ⟨_, rfl, rfl⟩
  · rw [exec_eq]; exact ⟨_, rfl, rfl⟩

/-- What a turn of the engine can do. -/
theorem engineTurn_cases {s t : State} (h : engineTurn s = .next t) :
    s.busy = true ∧ complete s = .next t ∨ s.busy = false ∧ t = s := by
  unfold engineTurn at h
  split at h
  · next hb => exact .inl ⟨hb, h⟩
  · next hb => cases h; exact .inr ⟨by simpa using hb, rfl⟩

/-- What a host access can do where it answers a next state: nothing, outside the window; a read; or a
write with BUSY = 0. -/
theorem serve_cases {a : Access} {s t : State} (h : serve a s = .next t) :
    touchesWindow a s = false ∧ t = s ∨
      touchesWindow a s = true ∧ wellFormedAccess a s = true ∧
        ((∃ addr n, a = .read addr n ∧ t = readAccess (regAt (addr - s.pBase)) s) ∨
          ∃ addr n v, a = .write addr n v ∧ s.busy = false ∧
            t = writeReg (regAt (addr - s.pBase)) v s) := by
  unfold serve at h
  split at h
  · next ht => cases h; exact .inl ⟨by simpa using ht, rfl⟩
  · next ht =>
    split at h
    · cases h
    · next hw =>
      refine .inr ⟨by simpa using ht, by simpa using hw, ?_⟩
      split at h
      · cases h; exact .inl ⟨_, _, rfl, rfl⟩
      · split at h
        · cases h
        · next hb => cases h; exact .inr ⟨_, _, _, rfl, by simpa using hb, rfl⟩

/-- What a read does: the reply, and for a busy engine one more free value drawn (R225). -/
theorem readAccess_cases (r : Reg) (s : State) :
    s.busy = false ∧ readAccess r s = { s with replies := readReg r s :: s.replies } ∨
      s.busy = true ∧ readAccess r s =
        { s with replies := busyValue r s :: s.replies, freeCount := s.freeCount + 1 } := by
  cases hb : s.busy <;> simp [readAccess, hb]

/-- What a write to a register changes: a word of an operand group, or the latch and BUSY (R57). -/
theorem writeReg_cases (r : Reg) (v : Word) (s : State) :
    writeReg r v s = s ∨ writeReg r v s = issue v s ∨
      (∃ q, writeReg r v s = { s with key := q }) ∨ (∃ q, writeReg r v s = { s with din := q }) ∨
      (∃ q, writeReg r v s = { s with tagin := q }) ∨ ∃ q, writeReg r v s = { s with gmy := q } := by
  cases r with
  | cmd => exact .inr (.inl rfl)
  | key i => exact .inr (.inr (.inl ⟨_, rfl⟩))
  | din i => exact .inr (.inr (.inr (.inl ⟨_, rfl⟩)))
  | tagin i => exact .inr (.inr (.inr (.inr (.inl ⟨_, rfl⟩))))
  | gmy i => exact .inr (.inr (.inr (.inr (.inr ⟨_, rfl⟩))))
  | _ => exact .inl rfl

/-- What a step can do where it answers a next state. -/
theorem step_cases {s t : State} (h : step s = .next t) :
    s.agenda = [] ∧ engineTurn s = .next t ∨
      ∃ rest, s.agenda = .engine :: rest ∧ engineTurn { s with agenda := rest } = .next t ∨
        s.agenda = .reset :: rest ∧ t = assertReset { s with agenda := rest } ∨
        ∃ a, s.agenda = .host a :: rest ∧ serve a { s with agenda := rest } = .next t := by
  unfold step at h
  split at h
  · next ha => exact .inl ⟨ha, h⟩
  · next tn rest ha =>
    refine .inr ⟨rest, ?_⟩
    cases tn with
    | host a => exact .inr (.inr ⟨a, ha, h⟩)
    | engine => exact .inl ⟨ha, h⟩
    | reset => cases h; exact .inr (.inl ⟨ha, rfl⟩)

end Sys2Proof.Machine
end

