-- ==== Sys2Proof/Laws/PerInstr.lean ====
section
/-! SUPPORT. A family of statements with one lemma per command: the fields that the encoding of a
well-formed command holds (30_encoding.md R70, R71, R77). -/

/-- The fields of the word that encodes i are i's own: OP, LEN, DIR, and RSV zero. -/
def Sys2Proof.Laws.EncodeFields.Statement (i : Sys2Proof.Instr) : Prop :=
  Sys2Proof.WellFormed i →
    Sys2Proof.opField (Sys2Proof.encode i) = Sys2Proof.opcodeOf i ∧
    Sys2Proof.lenField (Sys2Proof.encode i) = i.len ∧
    Sys2Proof.dirField (Sys2Proof.encode i) = Sys2Proof.dirOf i ∧
    Sys2Proof.rsvField (Sys2Proof.encode i) = 0

namespace Sys2Proof.Laws.EncodeFields

/-- The fields of a word put together from its fields. -/
theorem fields_of_append (d : Bool) (l : BitVec 8) (op : BitVec 8) :
    opField (0#15 ++ BitVec.ofBool d ++ l ++ op) = op ∧
    lenField (0#15 ++ BitVec.ofBool d ++ l ++ op) = l.toNat ∧
    dirField (0#15 ++ BitVec.ofBool d ++ l ++ op) = d ∧
    rsvField (0#15 ++ BitVec.ofBool d ++ l ++ op) = 0 := by
  refine ⟨?_, ?_, ?_, ?_⟩
  · apply BitVec.eq_of_getLsbD_eq
    intro i hi
    simp only [opField, BitVec.getLsbD_extractLsb', BitVec.getLsbD_append]
    simp [hi]
  · unfold lenField
    congr 1
    apply BitVec.eq_of_getLsbD_eq
    intro i hi
    simp only [BitVec.getLsbD_extractLsb', BitVec.getLsbD_append]
    simp [hi]
  · simp only [dirField, BitVec.getLsbD_append]
    simp
  · apply BitVec.eq_of_getLsbD_eq
    intro i hi
    simp only [rsvField, BitVec.getLsbD_extractLsb', BitVec.getLsbD_append]
    simp [hi, show ¬ 17 + i < 8 by omega, show ¬ 17 + i - 8 < 8 by omega,
      show ¬ 17 + i - 8 - 8 < 1 by omega]

/-- The statement for a command, from its LEN fitting the field. -/
theorem of_len (i : Instr) : Statement i := by
  intro h
  obtain ⟨a, b, c, d⟩ := fields_of_append (dirOf i) (BitVec.ofNat 8 i.len) (opcodeOf i)
  exact ⟨a, by rw [encode, b, BitVec.toNat_ofNat]; exact Nat.mod_eq_of_lt h, c, d⟩

theorem keyset (len : Nat) : Statement (.keyset len) := of_len _
theorem nonce (len : Nat) : Statement (.nonce len) := of_len _
theorem start (len : Nat) (dir : Direction) : Statement (.start len dir) := of_len _
theorem aad (len : Nat) : Statement (.aad len) := of_len _
theorem data (len : Nat) : Statement (.data len) := of_len _
theorem final (len : Nat) : Statement (.final len) := of_len _
theorem verify (len : Nat) : Statement (.verify len) := of_len _
theorem ecb (len : Nat) : Statement (.ecb len) := of_len _
theorem gmul (len : Nat) : Statement (.gmul len) := of_len _
theorem clear (len : Nat) : Statement (.clear len) := of_len _

end Sys2Proof.Laws.EncodeFields
end

