-- ==== Sys2Proof/Laws/Run.lean ====
section
/-! SUPPORT. Runs of the machine, one step at a time, the accesses to a word of the window as steps, and
the words a host writes to CMD. -/

namespace Sys2Proof.Machine

theorem run_zero (s : State) : Sys2Proof.core.run 0 s = .next s := rfl

/-- A run of any machine of the host's form, its first step taken. -/
theorem core_run_succ_of_next (M : Host.Core) {k : Nat} {s t : M.State} (h : M.step s = .next t) :
    M.run (k + 1) s = M.run k t := by
  simp [Host.Core.run, h]

theorem run_succ_of_next {k : Nat} {s t : State} (h : step s = .next t) :
    Sys2Proof.core.run (k + 1) s = Sys2Proof.core.run k t :=
  core_run_succ_of_next Sys2Proof.core h

/-- A whole aligned word of the window is touched, and well-formed. -/
theorem window_word {a : Access} {s : State} {off : Nat} (h : off < 0x100) (h4 : off % 4 = 0)
    (ha : accessAddr a = s.pBase + off) (hn : accessBytes a = 4) :
    touchesWindow a s = true ∧ wellFormedAccess a s = true := by
  simp only [touchesWindow, wellFormedAccess, ha, hn, windowBytes, Bool.and_eq_true,
    decide_eq_true_eq]
  refine ⟨⟨⟨by omega, by omega⟩, by omega⟩, ⟨trivial, by omega⟩, by omega⟩

/-- The number of R77 is the encoding's, for a well-formed command. -/
theorem commandNumber_eq {i : Instr} (h : WellFormed i) :
    commandNumber i = (encode i).toNat := by
  simp only [commandNumber, encode, BitVec.toNat_append, BitVec.toNat_ofBool, BitVec.toNat_ofNat]
  rw [Nat.mod_eq_of_lt (show i.len < 2 ^ 8 from h)]
  simp [Nat.shiftLeft_or_distrib, ← Nat.shiftLeft_add]

/-- A host writes a well-formed command as its encoding. -/
theorem commandWord_of_wellFormed {i : Instr} (h : WellFormed i) : commandWord i = encode i := by
  rw [commandWord, commandNumber_eq h, if_pos (encode i).isLt, BitVec.ofNat_toNat,
    BitVec.setWidth_eq]

/-- A read of a word of the window. -/
theorem serve_read {s : State} {off : Nat} (h : off < 0x100) (h4 : off % 4 = 0) :
    serve (.read (s.pBase + off) 4) s = .next (readAccess (regAt off) s) := by
  obtain ⟨e1, e2⟩ := window_word (a := .read (s.pBase + off) 4) (s := s) h h4 rfl rfl
  simp [serve, e1, e2]

/-- A write to a word of the window with BUSY = 0. -/
theorem serve_write {s : State} {off : Nat} {v : Word} (h : off < 0x100) (h4 : off % 4 = 0)
    (hb : s.busy = false) :
    serve (.write (s.pBase + off) 4 v) s = .next (writeReg (regAt off) v s) := by
  obtain ⟨e1, e2⟩ := window_word (a := .write (s.pBase + off) 4 v) (s := s) h h4 rfl rfl
  simp [serve, e1, e2, hb]

end Sys2Proof.Machine
end

