-- ==== Sys2Proof/Tests/Slice0.lean ====
section
/-! SUPPORT. The author's tests. Expected values come from spec/: words written out bit by bit from
30_encoding.md R70 and R77, and the vectors V1 to V21 of 95_test_vectors.md. The second half gives, for
every statement with hypotheses, concrete values that meet them. -/

set_option Elab.async false

namespace Sys2Proof.Tests

open Sys2Proof.Machine

/-! ### Well-formedness -/

/-- The one check: LEN fits its field (R70). -/
theorem test_wellFormed_len_255 : WellFormed (.aad 255) ∧ WellFormed (.start 0 .decrypt) := by decide
/-- An ill-formed term for it, which it refuses. -/
theorem test_wellFormed_refuses_len_256 : ¬WellFormed (.aad 256) := by decide
theorem test_wellFormed_refuses_clear_1000 : ¬WellFormed (.clear 1000) := by decide

/-! ### Decoding of words written out from R70: RSV, DIR, LEN, OP -/

theorem test_decode_keyset :
    decode (0b000000000000000#15 ++ 0b0#1 ++ 0b00010000#8 ++ 0b00000001#8) = .ok (.keyset 16) := by
  decide
theorem test_decode_nonce :
    decode (0b000000000000000#15 ++ 0b0#1 ++ 0b00001100#8 ++ 0b00000010#8) = .ok (.nonce 12) := by
  decide
theorem test_decode_start :
    decode (0b000000000000000#15 ++ 0b0#1 ++ 0b00000000#8 ++ 0b00000011#8) =
      .ok (.start 0 .encrypt) := by decide
theorem test_decode_start_dir :
    decode (0b000000000000000#15 ++ 0b1#1 ++ 0b00000000#8 ++ 0b00000011#8) =
      .ok (.start 0 .decrypt) := by decide
theorem test_decode_aad :
    decode (0b000000000000000#15 ++ 0b0#1 ++ 0b00001000#8 ++ 0b00000100#8) = .ok (.aad 8) := by
  decide
theorem test_decode_data :
    decode (0b000000000000000#15 ++ 0b0#1 ++ 0b00000110#8 ++ 0b00000101#8) = .ok (.data 6) := by
  decide
theorem test_decode_final :
    decode (0b000000000000000#15 ++ 0b0#1 ++ 0b00010001#8 ++ 0b00000110#8) = .ok (.final 17) := by
  decide
theorem test_decode_verify :
    decode (0b000000000000000#15 ++ 0b0#1 ++ 0b11111111#8 ++ 0b00000111#8) = .ok (.verify 255) := by
  decide
theorem test_decode_ecb :
    decode (0b000000000000000#15 ++ 0b0#1 ++ 0b00000000#8 ++ 0b00001000#8) = .ok (.ecb 0) := by
  decide
theorem test_decode_gmul :
    decode (0b000000000000000#15 ++ 0b0#1 ++ 0b00000000#8 ++ 0b00001001#8) = .ok (.gmul 0) := by
  decide
theorem test_decode_clear :
    decode (0b000000000000000#15 ++ 0b0#1 ++ 0b00000000#8 ++ 0b00001010#8) = .ok (.clear 0) := by
  decide
/-- R75: the illegal words, each under its own name. -/
theorem test_decode_illegal :
    decode 0x00000000 = .error .reservedOpcode ∧ decode 0x0000000b = .error .reservedOpcode ∧
    decode 0x000000ff = .error .reservedOpcode ∧ decode 0x0002000a = .error .reservedBits ∧
    decode 0x80000005 = .error .reservedBits ∧ decode 0x00010002 = .error .dirOutsideStart := by
  decide
theorem test_decodeTableWord :
    decodeTableWord 32 0x00010003 = some (.start 0 .decrypt) ∧
    decodeTableWord 16 0x00010003 = some (.start 0 .encrypt) ∧
    decodeTableWord 32 0x0000000b = none := by decide

/-! ### The functions: V1, V4, V6, V9, V15 -/

/-- The key of V2, V4 and of Scenario 1. -/
def scenarioKey : Quad := ⟨0x01234567, 0x89abcdef, 0xfedcba98, 0x76543210⟩

/-- V4: the 32 round keys of that key. -/
def scenarioKeys : Vector Word 32 :=
  #v[0x6c0dc92a, 0x1bca459a, 0x7fb9f47a, 0xa9f2da37, 0xfce57497, 0x1519c57b, 0x1023a247, 0x9988a0e4,
    0xd0dda822, 0x331666d0, 0x10788f2d, 0x754a9218, 0x12fff225, 0x9c6dfa07, 0xf4a85296, 0xc690f203,
    0x292b527a, 0xd3d9052c, 0xd2f6477c, 0x8c922baa, 0x4017f09c, 0x9449dca9, 0x8bd9a49c, 0xddd78725,
    0x9a801d16, 0x25c4f93e, 0x46f515c7, 0xff8dd57e, 0x211f4a4e, 0x9dc149e0, 0x627791e5, 0xb9a30c8e]

/-- V6, second row: H of that key. -/
def scenarioH : Block := 0x343ae8dc07a4a81dc0ea4da8c2b5e5b4

/-- V1. -/
theorem test_round_functions :
    tau defaultTables 0x01234567 = 0x90f473a2 ∧ linear 0x90f473a2 = 0x6ef180c9 ∧
    linear 0x80000000 = 0x80820202 ∧ roundT defaultTables 0x80000000 = 0x9767abab := by
  decide +kernel
/-- V4. -/
theorem test_key_schedule : keySchedule defaultTables (quadBlock scenarioKey) = scenarioKeys := by
  decide +kernel
/-- V6, first and second rows. -/
theorem test_encrypt :
    encrypt defaultTables scenarioKeys 0x0123456789abcdeffedcba9876543210 =
      0x6de720a7aa6776994e14ebe9210f0532 ∧
    encrypt defaultTables scenarioKeys 0 = scenarioH := by decide +kernel
/-- V9: one reduction step, x^127 · x^127, and V10's row. -/
theorem test_multiply :
    multiply 1 0x40000000000000000000000000000000 = 0xe1000000000000000000000000000000 ∧
    multiply 1 1 = 0xe6080000000000000000000000000003 ∧
    multiply 0x0388dace60b6a392f328c2b971b2fe78 0x66e94bd4ef8a2c3b884cfa59ca342b2e =
      0x5e2ec746917062882c85b0685353deb7 := by decide +kernel
/-- V15: the wrap without a carry. -/
theorem test_ctr :
    ctr 0x0123456789abcdeffedcba98ffffffff 1 = 0x0123456789abcdeffedcba9800000000 ∧
    ctr 0x0123456789abcdeffedcba9800000001 4294967294 = 0x0123456789abcdeffedcba98ffffffff := by
  decide +kernel
/-! ### One command on a small state: V7 to V18 -/

/-- A view of the state after the engine completes the command word w from s. -/
def after {α : Type} (w : Word) (s : State) (view : State → α) : Option α :=
  match complete (issue w s) with
  | .next t => some (view t)
  | .fault _ => none
  | .refused _ => none

/-- The state V7.1 leaves, KEY apart: a fresh context under Scenario 1's key. -/
def keyed : State := { State.reset with rk := scenarioKeys, h := scenarioH, phase := .nonce }

/-- The state V14.1 leaves, DIN apart: Scenario 1's nonce taken and START issued. -/
def started (d : Direction) : State :=
  { keyed with
    j0 := 0x0123456789abcdeffedcba9800000001, nraw := 0x0123456789abcdeffedcba98
    nbytes := 12, ncl := true, dir := d, phase := .aad }

/-- The state V16 leaves, DIN apart: all of Scenario 1's data processed. -/
def processed (d : Direction) : State :=
  { started d with
    acc := 0x3874d9e2b45cba9c30ee25b4837ee2ab, abytes := 8, acl := true, dbytes := 38, dcl := true
    dout := ⟨0x581b38c9, 0x30320000, 0, 0⟩, phase := .data }

/-- V7.1. -/
theorem test_keyset :
    after 0x00001001 { State.reset with key := scenarioKey } (fun t => (statusWord t, t.h)) =
      some (0x00000010, scenarioH) := by decide +kernel
/-- V7.2. -/
theorem test_keyset_len_15 :
    after 0x00000f01 { keyed with key := scenarioKey } (fun t => (statusWord t, t.key, t.h)) =
      some (0x00000100, zeroQuad, 0) := by decide +kernel
/-- V14.1. -/
theorem test_nonce_12 :
    after 0x00000c02 { keyed with din := ⟨0x01234567, 0x89abcdef, 0xfedcba98, 0⟩ }
      (fun t => (statusWord t, t.nbytes, t.nraw)) =
      some (0x00001010, 12, 0x0123456789abcdeffedcba98) := by decide +kernel
/-- V13, the 13-byte row: a partial block with its tail ignored. -/
theorem test_nonce_13 :
    after 0x00000d02 { keyed with din := ⟨0x01234567, 0x89abcdef, 0xfedcba98, 0x76ffffff⟩ }
      (fun t => t.acc) = some 0x7631d184c87eb6073f9de832710c84bb := by decide +kernel
/-- V14.4: the direct path and DIR. -/
theorem test_start_direct :
    after 0x00010003 { started .encrypt with phase := .nonce, j0 := 0 }
      (fun t => (statusWord t, t.j0)) =
      some (0x000010a0, 0x0123456789abcdeffedcba9800000001) := by decide +kernel
/-- V13, the 13-byte row: the GHASH path. -/
theorem test_start_ghash :
    after 0x00000003 { keyed with acc := 0x7631d184c87eb6073f9de832710c84bb, nbytes := 13, ncl := true }
      (fun t => (t.j0, t.acc)) = some (0x886e07223010672025854cb4b2d9a201, 0) := by decide +kernel
/-- V12.1. -/
theorem test_aad_8 :
    after 0x00000804 { started .encrypt with din := ⟨0xfeedface, 0xdeadbeef, 0, 0⟩ }
      (fun t => (statusWord t, t.acc, t.abytes)) =
      some (0x00003020, 0x4ccc03758c05edb0e7c089f084781903, 8) := by decide +kernel
/-- V12.5: the bytes at and beyond LEN are ignored. -/
theorem test_aad_1 :
    after 0x00000104 { started .encrypt with din := ⟨0xabffffff, 0xffffffff, 0xffffffff, 0xffffffff⟩ }
      (fun t => t.acc) = some 0x813f62140e26136b205c07b58cbc7edf := by decide +kernel
/-- V16, the third row: a partial block when encrypting. -/
theorem test_data_encrypt :
    after 0x00000605
      { started .encrypt with
        acc := 0xfaf58fdd7b47e12e7e855dadc87b2a01, abytes := 8, acl := true, dbytes := 32, phase := .data
        din := ⟨0x73736167, 0x65210000, 0, 0⟩ }
      (fun t => (statusWord t, quadBlock t.dout, t.acc)) =
      some (0x00007030, 0x581b38c9303200000000000000000000, 0x3874d9e2b45cba9c30ee25b4837ee2ab) := by
  decide +kernel
/-- V16, the decrypt direction. -/
theorem test_data_decrypt :
    after 0x00001005
      { started .decrypt with
        acc := 0x4ccc03758c05edb0e7c089f084781903, abytes := 8, acl := true
        din := ⟨0x7ae65df9, 0xab6bc8ba, 0x7343d66f, 0xefa1c41a⟩ }
      (fun t => (statusWord t, quadBlock t.dout, t.acc)) =
      some (0x000030b0, 0x48656c6c6f2c20746869732069732061, 0x834f1bf42cae581e77900c00cfbf1e5d) := by
  decide +kernel
/-- V17.1. -/
theorem test_final_16 :
    after 0x00001006 (processed .encrypt) (fun t => (statusWord t, quadBlock t.tagout, t.acc)) =
      some (0x00007040, 0xdc94877de49a046b2daf6e141a93b8ba, 0x9fc3652cd152af3fa8bffff07ecb7c69) := by
  decide +kernel
/-- V17.3. -/
theorem test_final_4 :
    after 0x00000406 (processed .encrypt) (fun t => quadBlock t.tagout) =
      some 0xdc94877d000000000000000000000000 := by decide +kernel
/-- V18, tagLen 4 with the other tag bytes garbage: a match. -/
theorem test_verify_match :
    after 0x00000407
      { processed .decrypt with tagin := ⟨0xdc94877d, 0xeeeeeeee, 0xeeeeeeee, 0xeeeeeeee⟩ }
      (fun t => (statusWord t, t.dout, t.tagout)) =
      some (0x000070c0, ⟨0x581b38c9, 0x30320000, 0, 0⟩, zeroQuad) := by decide +kernel
/-- V18, tag byte 15 bit 0 flipped. -/
theorem test_verify_mismatch :
    after 0x00001007
      { processed .decrypt with tagin := ⟨0xdc94877d, 0xe49a046b, 0x2daf6e14, 0x1a93b8bb⟩ }
      (fun t => (statusWord t, t.dout, t.tagout)) =
      some (0x000074c0, zeroQuad, zeroQuad) := by decide +kernel
/-- V8.2. -/
theorem test_ecb :
    after 0x00000008 { keyed with din := scenarioKey } (fun t => (statusWord t, quadBlock t.dout)) =
      some (0x00000010, 0x6de720a7aa6776994e14ebe9210f0532) := by decide +kernel
/-- V8.3. -/
theorem test_ecb_fresh :
    after 0x00000008 State.reset (fun t => (statusWord t, t.dout)) = some (0x00000200, zeroQuad) := by
  decide +kernel
/-- V11: GMUL takes DIN and GMY, in FRESH. -/
theorem test_gmul :
    after 0x00000009
      { State.reset with
        din := ⟨0x0388dace, 0x60b6a392, 0xf328c2b9, 0x71b2fe78⟩
        gmy := ⟨0x66e94bd4, 0xef8a2c3b, 0x884cfa59, 0xca342b2e⟩ }
      (fun t => (statusWord t, quadBlock t.dout)) =
      some (0x00000000, 0x5e2ec746917062882c85b0685353deb7) := by decide +kernel
/-- V11, with DIR = 1. -/
theorem test_gmul_dir :
    after 0x00010009 State.reset (fun t => statusWord t) = some 0x00000200 := by decide +kernel
/-- V21: CLEAR from PHASE DATA; KEY and DIN too read 0; D21, R221: LATCH is 0. -/
theorem test_clear :
    after 0x0000000a { processed .decrypt with key := scenarioKey, din := scenarioKey }
      (fun t => (statusWord t, t.key, t.din, t.h, t.dbytes, t.latch)) =
      some (0x00000000, zeroQuad, zeroQuad, 0, 0, 0) := by decide +kernel
/-- V21: with LEN = 1 nothing is cleared. -/
theorem test_clear_len_1 :
    after 0x0000010a { processed .encrypt with key := scenarioKey, acl := false, dcl := false }
      (fun t => (statusWord t, t.key)) = some (0x00001250, scenarioKey) := by decide +kernel
/-- V19.1 and V19.4: the limits. -/
theorem test_limits :
    after 0x00000105 { processed .encrypt with dbytes := 0xfffffffe0, acl := false, dcl := false }
      (fun t => (statusWord t, t.dbytes)) = some (0x00001350, 0xfffffffe0) ∧
    after 0x00001002 { keyed with nbytes := 0x1ffffffffffffff0 } (fun t => statusWord t) =
      some 0x00000350 := by decide +kernel
/-- V20, rows 1, 3, 4, 5, 6, 7 and 14: the order of the checks. -/
theorem test_errors :
    after 0x00000000 State.reset (fun t => statusWord t) = some 0x00000200 ∧
    after 0x0002000a State.reset (fun t => statusWord t) = some 0x00000200 ∧
    after 0x00010002 keyed (fun t => statusWord t) = some 0x00000250 ∧
    after 0x00001106 State.reset (fun t => statusWord t) = some 0x00000200 ∧
    after 0x00000804 { processed .encrypt with acl := false, dcl := false } (fun t => statusWord t) =
      some 0x00001250 ∧
    after 0x00001007 (started .encrypt) (fun t => statusWord t) = some 0x00001250 ∧
    after 0x00000103 (started .encrypt) (fun t => statusWord t) = some 0x00001250 := by
  decide +kernel

/-- R77, R171, D12: the words a host writes for a tagLen beyond its field, and that they are illegal. -/
theorem test_commandWord :
    commandWord (.final 16) = 0x00001006 ∧ commandWord (.verify 272) = 0x00011007 ∧
    decode (commandWord (.final 260)) = .error .dirOutsideStart ∧
    decode (commandWord (.final 512)) = .error .reservedBits ∧
    decode (commandWord (.verify (2 ^ 24 + 4))) = .error .reservedBits := by decide +kernel

/-! ### The window and the step -/

/-- R21, R54: DIN1 stands at 0x1C and is bytes 4 to 7 of the block. -/
theorem test_din1 :
    quadBlock (writeReg (regAt 0x1C) 0x89abcdef State.reset).din = 0x0000000089abcdef0000000000000000 := by
  decide
/-- R55: the halves of a counter. -/
theorem test_counter_halves :
    readReg (regAt 0x78) { State.reset with dbytes := 0xfffffffe0 } = 0xffffffe0 ∧
    readReg (regAt 0x7C) { State.reset with dbytes := 0xfffffffe0 } = 0x0000000f := by decide +kernel
/-- The bus-level view of one command (95_test_vectors.md): store, completion, load. -/
theorem test_bus_level :
    (match Sys2Proof.core.run 3 { started .encrypt with agenda :=
        [.host (.write 0x00 4 0x00000804), .engine, .host (.read 0x04 4)] } with
      | .next t => t.replies
      | .fault _ => []
      | .refused _ => []) = [0x00003020] := by decide +kernel
/-- The first step after reset runs the word that withFetchWord places. -/
theorem test_withFetchWord :
    (match step (State.reset.withFetchWord 32 0x00000008) with
      | .next t => some (statusWord t, t.latch)
      | .fault _ => none
      | .refused _ => none) = some (0x00000200, 0x00000008) := by decide +kernel

/-! ### Witnesses: values that meet the hypotheses of the statements, clause by clause -/

/-- A context in phase AAD, encrypting, with one nonce byte taken. -/
def inAad : State := { State.reset with phase := .aad, nbytes := 1 }

/-- A context in phase DATA, decrypting, the data section open. -/
def inData : State := { State.reset with phase := .data, nbytes := 1, dir := .decrypt }

/-- A busy engine with a legal word latched. -/
def busyEcb : State := { inAad with busy := true, latch := 0x00000008 }

/-- An idle engine whose next turn is the access a. -/
def next (a : Access) : State := { State.reset with agenda := [.host a] }

/-- A busy engine whose next turn is the access a. -/
def busyNext (a : Access) : State := { busyEcb with agenda := [.host a] }

theorem witness_DecodeOfEncodeIsTheCommand :
    WellFormed (.aad 0) ∧ WellFormed (.aad 255) ∧ WellFormed (.start 255 .decrypt) := by decide
theorem witness_EncodeOfDecodeIsTheWord :
    decode 0x0000ff04 = .ok (.aad 255) ∧ decode 0x00010003 = .ok (.start 0 .decrypt) := by decide
theorem witness_EveryWordDecodesOrIsIllegal :
    (0x00020001#32).toNat / 131072 ≠ 0 ∧ ¬(1 ≤ (0x0000000b#32).toNat % 256 ∧
      (0x0000000b#32).toNat % 256 ≤ 10) ∧
    ((0x00010002#32).toNat / 65536 % 2 = 1 ∧ (0x00010002#32).toNat % 256 ≠ 3) ∧
    ((0x0001ff03#32).toNat / 131072 = 0 ∧ 1 ≤ (0x0001ff03#32).toNat % 256 ∧
      (0x0001ff03#32).toNat % 256 ≤ 10 ∧
      ((0x0001ff03#32).toNat / 65536 % 2 = 1 → (0x0001ff03#32).toNat % 256 = 3)) ∧
    (decode 0x0000000b = .error .reservedOpcode ∧
      { State.reset with latch := 0x0000000b }.latch = 0x0000000b) := by decide
theorem witness_EncodingFunctionAndLegalWords :
    WellFormed (.start 255 .decrypt) ∧ (1 ≤ 1 ∧ 1 ≤ 16) ∧ (1 ≤ 16 ∧ 16 ≤ 16) := by decide
theorem witness_StepRunsTheDecodedCommand :
    busyEcb.busy = true ∧ busyEcb.agenda = [] ∧ decode busyEcb.latch = .ok (.ecb 0) ∧
      WellFormed (.ecb 0) ∧ ∃ t, exec (.ecb 0) { busyEcb with agenda := [] } = .next t :=
  ⟨rfl, rfl, by decide, by decide, _, rfl⟩
theorem witness_StepRunsTheDecodedCommand_engine :
    { busyEcb with agenda := [.engine, .reset] }.agenda = .engine :: [.reset] ∧
      decode { busyEcb with agenda := [.engine, .reset] }.latch = .ok (.ecb 0) := by decide
theorem witness_ResetValuesAreZero :
    ∃ s u rest, u = { busyEcb with agenda := [.reset, .engine] } ∧ u.agenda = .reset :: rest ∧
      step u = .next s := ⟨_, _, _, rfl, rfl, rfl⟩
/-- A read while busy, then the engine's turn and a write; the read alone; the read and then a reset. -/
theorem witness_EveryIssuedCommandCompletes :
    busyEcb.busy = true ∧
    (∀ tn ∈ [Turn.host (.read 0x04 4)], ∃ a, tn = .host a ∧ safeTurn tn busyEcb = true) ∧
    { busyEcb with agenda := [.host (.read 0x04 4), .engine, .host (.write 0x18 4 1)] }.agenda =
      [.host (.read 0x04 4)] ++ .engine :: [.host (.write 0x18 4 1)] ∧
    (busyNext (.read 0x04 4)).agenda = [.host (.read 0x04 4)] ∧
    { busyEcb with agenda := [.host (.read 0x04 4), .reset] }.agenda =
      [.host (.read 0x04 4)] ++ .reset :: [] :=
  ⟨rfl, fun tn h => ⟨.read 0x04 4, by simpa using h, by rw [List.mem_singleton.mp h]; decide⟩,
    rfl, rfl, rfl⟩
theorem witness_CommandLifecycle :
    ∃ s : State, s.busy = false ∧ s.agenda = .host (.write (windowAddr s 0x00) 4 0x00000009) ::
      .engine :: .host (.read (windowAddr s 0x04) 4) :: [] :=
  ⟨{ State.reset with agenda := [.host (.write 0 4 0x00000009), .engine, .host (.read 4 4)] },
    rfl, rfl⟩
/-- At the last byte of the window, two bytes wide, and a 4-byte access at offset 2. -/
theorem witness_MalformedAccessIsABusError :
    (0xff < 0x100 ∧ 1 ≤ 2 ∧ ¬(2 = 4 ∧ 0xff % 4 = 0) ∧ accessAddr (.read 0xff 2) =
      windowAddr (next (.read 0xff 2)) 0xff ∧ accessBytes (.read 0xff 2) = 2) ∧
    (2 < 0x100 ∧ 1 ≤ 4 ∧ ¬(4 = 4 ∧ 2 % 4 = 0) ∧ accessAddr (.write 2 4 0) =
      windowAddr (next (.write 2 4 0)) 2 ∧ accessBytes (.write 2 4 0) = 4) := by decide
theorem witness_WriteWhileBusyIsAHazard :
    0xfc < 0x100 ∧ 0xfc % 4 = 0 ∧ (busyNext (.write 0xfc 4 1)).busy = true ∧
      (busyNext (.write 0xfc 4 1)).agenda =
        .host (.write (windowAddr (busyNext (.write 0xfc 4 1)) 0xfc) 4 1) :: [] := by decide
theorem witness_ReadWhileBusyHasNoSideEffect :
    0x04 < 0x100 ∧ 0x04 % 4 = 0 ∧ (busyNext (.read 0x04 4)).busy = true ∧
      (busyNext (.read 0x04 4)).agenda =
        .host (.read (windowAddr (busyNext (.read 0x04 4)) 0x04) 4) :: [] := by decide
/-- The first and the last word of each clause. -/
theorem witness_ReservedAndRestrictedOffsets :
    ∀ off ∈ [0x80, 0xfc, 0x00, 0x08, 0x14],
      (next (.read off 4)).busy = false ∧ off % 4 = 0 ∧
      (0x80 ≤ off ∧ off ≤ 0xfc ∨ off = 0x00 ∨ 0x08 ≤ off ∧ off ≤ 0x14) ∧
      (next (.read off 4)).agenda = .host (.read (windowAddr (next (.read off 4)) off) 4) :: [] := by
  decide
/-- The read-only registers: the first and the last word of each group, and a counter's high half. -/
theorem witness_ReservedAndRestrictedOffsets_readOnly :
    (0x28 = 0x28 ∧ (0 : Word) = (next (.read 0x28 4)).dout.w0) ∧
    (0x54 = 0x54 ∧ (0 : Word) = (next (.read 0x54 4)).tagout.w3) ∧
    (0x7c = 0x7c ∧ (0xf : Word) =
      BitVec.ofNat 32 ({ next (.read 0x7c 4) with dbytes := 0xfffffffe0 }.dbytes.toNat / 2 ^ 32)) ∧
    (next (.read 0x7c 4)).agenda = .host (.read (windowAddr (next (.read 0x7c 4)) 0x7c) 4) :: [] := by
  decide +kernel
theorem witness_ReservedAndRestrictedOffsets_write :
    ∀ off ∈ [0x80, 0xfc, 0x04, 0x28, 0x34, 0x48, 0x54, 0x68, 0x7c],
      (next (.write off 4 1)).busy = false ∧ off % 4 = 0 ∧
      (0x80 ≤ off ∧ off ≤ 0xfc ∨ off = 0x04 ∨ 0x28 ≤ off ∧ off ≤ 0x34 ∨ 0x48 ≤ off ∧ off ≤ 0x54 ∨
        0x68 ≤ off ∧ off ≤ 0x7c) ∧
      (next (.write off 4 1)).agenda =
        .host (.write (windowAddr (next (.write off 4 1)) off) 4 1) :: [] := by decide
theorem witness_OnlyTheCommandWriteHasASideEffect :
    (next (.read 0xfc 4)).busy = false ∧ 0xfc < 0x100 ∧ 0xfc % 4 = 0 ∧
      (next (.read 0xfc 4)).agenda = .host (.read (windowAddr (next (.read 0xfc 4)) 0xfc) 4) :: [] ∧
    (0x08 ≠ 0 ∧ (next (.write 0x08 4 1)).agenda =
      .host (.write (windowAddr (next (.write 0x08 4 1)) 0x08) 4 1) :: []) ∧
    (next (.write 0 4 10)).agenda = .host (.write (windowAddr (next (.write 0 4 10)) 0) 4 10) :: [] := by
  decide
theorem witness_OperandRegistersReadBack :
    (∀ off ∈ [0x18, 0x24, 0x38, 0x44, 0x58, 0x64, 0x08, 0x14],
      { State.reset with agenda := [.host (.write off 4 7), .host (.read off 4)] }.busy = false ∧
      off % 4 = 0 ∧ { State.reset with agenda := [.host (.write off 4 7), .host (.read off 4)] }.agenda =
        .host (.write (windowAddr State.reset off) 4 7) ::
          .host (.read (windowAddr State.reset off) 4) :: []) ∧
    ∀ off ∈ [0x18, 0x24, 0x38, 0x44, 0x58, 0x64],
      0x18 ≤ off ∧ off ≤ 0x24 ∨ 0x38 ≤ off ∧ off ≤ 0x44 ∨ 0x58 ≤ off ∧ off ≤ 0x64 := by decide
theorem witness_OperandRegistersReadBack_single :
    ∀ off ∈ [0x08, 0x14, 0x18, 0x24, 0x38, 0x44, 0x58, 0x64],
      (next (.write off 4 7)).busy = false ∧ off % 4 = 0 ∧
      (next (.write off 4 7)).agenda =
        .host (.write (windowAddr (next (.write off 4 7)) off) 4 7) :: [] ∧
      (next (.read off 4)).agenda = .host (.read (windowAddr (next (.read off 4)) off) 4) :: [] := by
  decide
theorem witness_StatusWordLayout :
    (next (.read 0x04 4)).busy = false ∧ (next (.read 0x04 4)).agenda =
      .host (.read (windowAddr (next (.read 0x04 4)) 0x04) 4) :: [] := by decide
/-- An idle pair and a busy pair. -/
theorem witness_SecretsAreNotReadable :
    (sameReadable State.reset { State.reset with key := scenarioKey, h := 1, latch := 5 } ∧
      ∃ s', serve (.read 0x08 4) State.reset = .next s') ∧
    (sameReadable busyEcb { busyEcb with key := scenarioKey, h := 1, latch := 5 } ∧
      (busyEcb.busy = true → busyEcb.freeCount = { busyEcb with h := 1 }.freeCount) ∧
      ∃ s', serve (.read 0x08 4) busyEcb = .next s') :=
  ⟨⟨⟨rfl, rfl, rfl, rfl, rfl, rfl, rfl, rfl, rfl, rfl, rfl, rfl, rfl, rfl, rfl⟩, _, rfl⟩,
    ⟨rfl, rfl, rfl, rfl, rfl, rfl, rfl, rfl, rfl, rfl, rfl, rfl, rfl, rfl, rfl⟩, fun _ => rfl, _, rfl⟩
theorem witness_HostAccessLeavesTheContext :
    (next (.write 0x18 4 7)).agenda = .host (.write 0x18 4 7) :: [] ∧
      ∃ t, step (next (.write 0x18 4 7)) = .next t := ⟨rfl, _, rfl⟩
theorem witness_DataCounterBlocksAreDistinct :
    check (.data 16) { inAad with dbytes := 0xfffffffd0 } = none ∧ check (.data 1) inAad = none ∧
      (1 ≤ 1 ∧ 1 ≤ 2 ^ 32 - 2) ∧ (1 ≤ 2 ^ 32 - 2 ∧ 2 ^ 32 - 2 ≤ 2 ^ 32 - 2 ∧ 1 ≠ 2 ^ 32 - 2) := by
  decide +kernel
theorem witness_KeysetCommand :
    15 ≠ 16 ∧ (0x00011001#32).toNat % 256 = 0x01 ∧ 65536 ≤ (0x00011001#32).toNat := by decide
/-- The limit reached exactly, and passed by one byte. -/
theorem witness_NonceCommand :
    keyed.phase = .nonce ∧ keyed.ncl = false ∧
    { keyed with nbytes := 0x1ffffffffffffff0 }.nbytes.toNat + 15 ≤ 2 ^ 61 - 1 ∧
    2 ^ 61 - 1 < { keyed with nbytes := 0x1ffffffffffffff0 }.nbytes.toNat + 16 ∧
    ¬(1 ≤ 17 ∧ 17 ≤ 16) ∧ inAad.phase ≠ .nonce ∧
    ((0x00011002#32).toNat % 256 = 0x02 ∧ 65536 ≤ (0x00011002#32).toNat) := by decide +kernel
theorem witness_StartCommand :
    (keyed.phase = .nonce ∧ { keyed with nbytes := 12 }.nbytes.toNat = 12) ∧
    (1 ≤ { keyed with nbytes := 11 }.nbytes.toNat ∧ { keyed with nbytes := 11 }.nbytes.toNat ≠ 12) ∧
    (keyed.nbytes.toNat = 0 ∧ inAad.phase ≠ .nonce) ∧
    ((0x00020003#32).toNat % 256 = 0x03 ∧ 131072 ≤ (0x00020003#32).toNat) := by decide +kernel
theorem witness_AadCommand :
    inAad.phase = .aad ∧ inAad.acl = false ∧
    { inAad with abytes := 0x1ffffffffffffff0 }.abytes.toNat + 15 ≤ 2 ^ 61 - 1 ∧
    2 ^ 61 - 1 < { inAad with abytes := 0x1ffffffffffffff0 }.abytes.toNat + 16 ∧
    ¬(1 ≤ 0 ∧ 0 ≤ 16) ∧ inData.phase ≠ .aad ∧
    ((0x00011004#32).toNat % 256 = 0x04 ∧ 65536 ≤ (0x00011004#32).toNat) := by decide +kernel
theorem witness_DataCommand :
    inAad.phase = .aad ∧ inData.phase = .data ∧ inData.dcl = false ∧
    { inData with dbytes := 0xfffffffd0 }.dbytes.toNat + 16 ≤ 2 ^ 36 - 32 ∧
    2 ^ 36 - 32 < { inData with dbytes := 0xfffffffe0 }.dbytes.toNat + 1 ∧
    ¬(1 ≤ 0 ∧ 0 ≤ 16) ∧ (keyed.phase ≠ .aad ∧ keyed.phase ≠ .data) ∧
    ((0x00011005#32).toNat % 256 = 0x05 ∧ 65536 ≤ (0x00011005#32).toNat) := by decide +kernel
theorem witness_FinalCommand :
    inAad.phase = .aad ∧ inAad.dir = .encrypt ∧ inData.dir = .decrypt ∧ ¬(1 ≤ 17 ∧ 17 ≤ 16) ∧
    ((0x00011006#32).toNat % 256 = 0x06 ∧ 65536 ≤ (0x00011006#32).toNat) := by decide
/-- V18: the full tag of Scenario 1. -/
theorem test_full_tag : fullTag (processed .decrypt) = 0xdc94877de49a046b2daf6e141a93b8ba := by
  decide +kernel
/-- The first row of V18 meets the first clause with n = 16, its fifth row the second. -/
theorem witness_VerifyCommand :
    (processed .decrypt).phase = .data ∧ (processed .decrypt).dir = .decrypt ∧
    (∀ k < 16, byteAt (fullTag (processed .decrypt)) k =
      byteAt (quadBlock ⟨0xdc94877d, 0xe49a046b, 0x2daf6e14, 0x1a93b8ba⟩) k) ∧
    (∃ k < 16, byteAt (fullTag (processed .decrypt)) k ≠
      byteAt (quadBlock ⟨0xdc94877d, 0xe49a046b, 0x2daf6e14, 0x1a93b8bb⟩) k) ∧
    inAad.dir = .encrypt ∧
    ((0x00011007#32).toNat % 256 = 0x07 ∧ 65536 ≤ (0x00011007#32).toNat) := by
  rw [test_full_tag]
  decide +kernel
theorem witness_EcbGmulClearCommand :
    inAad.phase ≠ .fresh ∧ State.reset.phase = .fresh ∧ 1 ≠ 0 ∧
    { inAad with latch := 0x0000000a }.latch = 0x0000000a ∧
    ((0x00010008#32).toNat % 256 = 0x08 ∧ 65536 ≤ (0x00010008#32).toNat) ∧
    ((0x00010009#32).toNat % 256 = 0x09 ∧ 65536 ≤ (0x00010009#32).toNat) ∧
    ((0x0001000a#32).toNat % 256 = 0x0a ∧ 65536 ≤ (0x0001000a#32).toNat) := by decide
theorem witness_ChecksAreMadeInOrder :
    wordCheck 0x00010f01 State.reset = some .usageError ∧
    wordCheck 0x00000f01 State.reset = some .invalidKeyLength ∧
    wordCheck 0x00000105 { inAad with dbytes := 0xfffffffe0 } = some .limitExceeded ∧
    wordCheck 0x00001005 { inAad with dbytes := 0xfffffffd0 } = none := by decide +kernel
theorem witness_WhatARejectionChanges :
    check (.keyset 15) inAad = some .invalidKeyLength ∧ check (.nonce 1) inAad = some .usageError ∧
    check (.aad 1) { inAad with abytes := 0x1fffffffffffffff } = some .limitExceeded := by
  decide +kernel
theorem witness_ErrIsTheLastCommandsResult :
    (check (.final 16) inAad = none ∧ check (.verify 1) inData = none) ∧
      (∃ t, exec (.final 16) inAad = .next t) ∧ ∃ t, exec (.verify 1) inData = .next t :=
  ⟨by decide +kernel, ⟨_, rfl⟩, _, rfl⟩
theorem witness_PhaseTransitions :
    (∃ t, exec (.data 1) inAad = .next t) ∧ check (.data 1) inAad = none ∧
    check (.keyset 0) inAad = some .invalidKeyLength ∧ check (.nonce 1) inAad = some .usageError ∧
    check (.ecb 0) State.reset = some .usageError :=
  ⟨⟨_, rfl⟩, by decide +kernel, by decide +kernel, by decide +kernel, by decide +kernel⟩
theorem witness_PermittedCommandsTable :
    lenError (.verify 16) = none ∧ permittedTable (opcodeOf (.verify 16)).toNat inAad = false ∧
      permittedTable (opcodeOf (.verify 16)).toNat inData = true := by decide
theorem witness_NoRecoveryButKeysetAndClear :
    { inAad with phase := .failed }.phase = .failed ∧
      (∃ t, exec (.keyset 16) { inAad with phase := .failed } = .next t) ∧
      15 ≠ 16 ∧ ∃ t, exec (.keyset 15) { inAad with phase := .finalized } = .next t :=
  ⟨rfl, ⟨_, rfl⟩, by decide, _, rfl⟩
theorem witness_OnlyKeysetOpensAMessage :
    ∃ t, step { State.reset with busy := true, latch := 0x00001001 } = .next t ∧
      t.phase = .nonce ∧ State.reset.phase ≠ .nonce := ⟨_, rfl, rfl, by decide⟩
theorem witness_WritersOfTheOutputRegisters :
    (∃ t, exec (.gmul 0) { State.reset with dout := ⟨1, 0, 0, 0⟩ } = .next t ∧
      t.dout ≠ { State.reset with dout := ⟨1, 0, 0, 0⟩ }.dout) ∧
    ∃ t, exec (.clear 0) { State.reset with tagout := ⟨1, 0, 0, 0⟩ } = .next t ∧
      t.tagout ≠ { State.reset with tagout := ⟨1, 0, 0, 0⟩ }.tagout :=
  ⟨⟨_, rfl, by decide +kernel⟩, _, rfl, by decide +kernel⟩
theorem witness_ClosedFlagsRule :
    (∃ t, exec (.aad 15) inAad = .next t) ∧ inAad.acl = false ∧
      { inAad with ncl := true, acl := true, dcl := true }.ncl = true := ⟨⟨_, rfl⟩, rfl, rfl⟩
theorem witness_StepKeepsContextInvariant :
    ContextInvariant State.reset ∧
      ∃ t, step { State.reset with busy := true, latch := 0x00001001 } = .next t :=
  ⟨⟨fun _ => by decide, fun _ => by decide, fun _ => by decide, by decide, by decide, by decide,
    fun _ => ⟨rfl, rfl, rfl, rfl, rfl, rfl, rfl, rfl, rfl, rfl, rfl⟩,
    fun h => by revert h; decide, fun h => by revert h; decide⟩, _, rfl⟩
theorem witness_StepKeepsSubkeyInvariant :
    SubkeyInvariant { keyed with busy := true, latch := 0x00000c02 } ∧
      ∃ t, step { keyed with busy := true, latch := 0x00000c02 } = .next t :=
  ⟨fun _ => test_encrypt.2.symm, _, rfl⟩
theorem witness_TablesAreNeverWritten :
    ∃ t, step { inAad with agenda := [.reset] } = .next t := ⟨_, rfl⟩
theorem witness_WritersOfTheKeyState :
    (∃ t, step { keyed with agenda := [.reset] } = .next t ∧ t.h ≠ keyed.h) ∧
    ∃ t, step { keyed with j0 := 1, busy := true, latch := 0x0000000a } = .next t ∧
      t.j0 ≠ { keyed with j0 := 1 }.j0 := ⟨⟨_, rfl, by decide +kernel⟩, _, rfl, by decide +kernel⟩
theorem witness_BytesBeyondLenNeverMatter :
    (∀ k < 15, byteAt (quadBlock ⟨0, 0, 0, 0xff⟩) k = byteAt (quadBlock inAad.din) k) ∧
      (∃ t, exec (.aad 15) inAad = .next t) ∧ ∃ t, exec (.verify 15) inData = .next t :=
  ⟨by decide +kernel, ⟨_, rfl⟩, _, rfl⟩
theorem witness_OutputBytesBeyondLenAreZero :
    check (.data 15) inData = none ∧ ∃ t, exec (.data 15) inData = .next t :=
  ⟨by decide +kernel, _, rfl⟩
theorem witness_NonceCommandsDeriveJ0 :
    keyed.busy = false ∧ keyed.phase = .nonce ∧ keyed.ncl = false ∧ keyed.nbytes = 0 ∧
      keyed.acc = 0 ∧ 1 ≤ [0xab#8].length ∧ [0xab#8].length ≤ 2 ^ 61 - 1 := by decide +kernel
/-- One nonce byte, no AAD, no text, the shortest and the longest tag; also for the round trip. -/
theorem witness_EncryptSequenceComputesTheMessage :
    State.reset.busy = false ∧ 1 ≤ [0xab#8].length ∧ [0xab#8].length ≤ 2 ^ 61 - 1 ∧
      ([] : List Byte).length ≤ 2 ^ 61 - 1 ∧ ([] : List Byte).length ≤ 2 ^ 36 - 32 ∧
      (1 ≤ 1 ∧ 1 ≤ 16) ∧ (1 ≤ 16 ∧ 16 ≤ 16) ∧ ¬(1 ≤ 0 ∧ 0 ≤ 16) ∧ ¬(1 ≤ 17 ∧ 17 ≤ 16) ∧
      ¬(1 ≤ 256 ∧ 256 ≤ 16) := by decide +kernel
theorem witness_DecryptOfEncryptIsThePlaintext :
    State.reset.busy = false ∧ inData.busy = false ∧ inData.tables = State.reset.tables ∧
      1 ≤ [0xab#8].length ∧ [0xab#8].length ≤ 2 ^ 61 - 1 ∧ ([] : List Byte).length ≤ 2 ^ 61 - 1 ∧
      [0x01#8].length ≤ 2 ^ 36 - 32 ∧ (1 ≤ 1 ∧ 1 ≤ 16) ∧ ¬(1 ≤ 17 ∧ 17 ≤ 16) :=
  ⟨rfl, rfl, rfl, by decide +kernel, by decide +kernel, by decide +kernel, by decide +kernel, by decide, by decide⟩

/-- The verdict of Decrypt on an empty message under Scenario 1's key and a one-byte nonce. -/
def emptyDecrypt (tag : List Byte) : Bool :=
  match decryptMessage (quadBlock scenarioKey) [0x00] [] [] tag tag.length State.reset with
  | .ok (p, _) => p.isEmpty
  | .error _ => false

/-- V23, third row: the tag of the empty message with nonce 00 begins d64985…. -/
theorem witness_AnyOtherTagIsRefused :
    State.reset.busy = false ∧ [0xd6#8].length = 1 ∧ [0xd7#8].length = 1 ∧ (1 ≤ 1 ∧ 1 ≤ 16) ∧ [0xd7#8] ≠ [0xd6#8] ∧
      emptyDecrypt [0xd6#8] = true := by decide +kernel
theorem witness_DecryptBlockInvertsEncryptBlock :
    inAad.dir = .encrypt ∧ check (.data 15) inAad = none ∧ ∃ t, exec (.data 15) inAad = .next t :=
  ⟨rfl, by decide +kernel, _, rfl⟩
theorem witness_EmptyMessageTagIsTheMask :
    inAad.phase = .aad ∧ inAad.dir = .encrypt ∧ inAad.acc = 0 ∧ inAad.abytes = 0 ∧
      inAad.dbytes = 0 ∧ (1 ≤ 1 ∧ 1 ≤ 16) ∧ (1 ≤ 16 ∧ 16 ≤ 16) := by decide +kernel

end Sys2Proof.Tests
end

section
/-! The rules about steps that the state's statements share: what leaves the context alone, what a step can
do to the context, when each command is accepted, and which commands write the key state. -/

namespace Sys2Proof.Machine

/-! ### The context under a step -/

/-- t differs from s at most in what the host writes (R20, R23: KEY, DIN, TAGIN, GMY, the latch and BUSY) and
in the model's own fields. -/
def sameContext (s t : State) : Prop :=
  t = { s with
    key := t.key, din := t.din, tagin := t.tagin, gmy := t.gmy, latch := t.latch, busy := t.busy
    agenda := t.agenda, replies := t.replies, freeCount := t.freeCount }

theorem sameContext_finish (s : State) : sameContext s (finish s) := rfl

theorem sameContext_setAgenda (s : State) (rest : List Turn) :
    sameContext s { s with agenda := rest } := rfl

theorem assertReset_eq_finish (s : State) : assertReset s = finish (clearAll s) := rfl

/-- A host access changes only what the host may write, and the model's own fields. -/
theorem serve_frame {a : Access} {s t : State} (h : serve a s = .next t) :
    t = { s with
      key := t.key, din := t.din, tagin := t.tagin, gmy := t.gmy, latch := t.latch, busy := t.busy
      replies := t.replies, freeCount := t.freeCount } := by
  rcases serve_cases h with
    ⟨_, rfl⟩ | ⟨_, _, ⟨addr, n, _, rfl⟩ | ⟨addr, n, v, _, _, rfl⟩⟩
  · rfl
  · rcases readAccess_cases (regAt (addr - s.pBase)) s with ⟨_, e⟩ | ⟨_, e⟩ <;> rw [e]
  · rcases writeReg_cases (regAt (addr - s.pBase)) v s with
      e | e | ⟨q, e⟩ | ⟨q, e⟩ | ⟨q, e⟩ | ⟨q, e⟩ <;> simp [e, issue]

theorem sameContext_of_serve {a : Access} {s t : State} {rest : List Turn}
    (h : serve a { s with agenda := rest } = .next t) : sameContext s t := by
  have hf := serve_frame h
  have ha : t.agenda = rest := by rw [hf]
  rw [sameContext, ha]
  exact hf

/-- What a step does to the context: nothing; a reset; or the completion of the latched command. -/
theorem step_context_cases {s t : State} (h : step s = .next t) :
    sameContext s t ∨
      (∃ rest, s.agenda = .reset :: rest ∧ t = assertReset { s with agenda := rest }) ∨
      s.busy = true ∧ ∃ rest, complete { s with agenda := rest } = .next t := by
  rcases step_cases h with ⟨_, he⟩ | ⟨rest, ⟨_, he⟩ | ⟨ha, rfl⟩ | ⟨a, _, hs⟩⟩
  · rcases engineTurn_cases he with ⟨hb, hc⟩ | ⟨_, rfl⟩
    · exact .inr (.inr ⟨hb, s.agenda, hc⟩)
    · exact .inl rfl
  · rcases engineTurn_cases he with ⟨hb, hc⟩ | ⟨_, rfl⟩
    · exact .inr (.inr ⟨hb, rest, hc⟩)
    · exact .inl (sameContext_setAgenda s rest)
  · exact .inr (.inl ⟨rest, ha, rfl⟩)
  · exact .inl (sameContext_of_serve hs)

theorem check_clear_zero (s : State) : check (.clear 0) s = none := rfl

/-- A predicate is kept by every step if it speaks of the context alone and is kept by every rejection and
by the effect of every accepted command; a reset does to the context what CLEAR does (R220, R221). -/
theorem step_preserves {P : State → Prop}
    (same : ∀ s t, sameContext s t → P s → P t)
    (rejected : ∀ e s, P s → P (reject e s))
    (accepted : ∀ i s, check i s = none → P s → P (effectOf i { s with err := .none }))
    {s t : State} (hs : P s) (h : step s = .next t) : P t := by
  rcases step_context_cases h with hst | ⟨rest, _, rfl⟩ | ⟨_, rest, hc⟩
  · exact same s t hst hs
  · have hP := same _ _ (sameContext_setAgenda s rest) hs
    exact same _ _ (sameContext_finish _) (accepted (.clear 0) _ (check_clear_zero _) hP)
  · have hP := same _ _ (sameContext_setAgenda s rest) hs
    rcases complete_cases hc with ⟨_, _, rfl⟩ | ⟨i, u, _, hx, rfl⟩
    · exact same _ _ (sameContext_finish _) (rejected _ _ hP)
    · rcases exec_cases hx with ⟨e, _, rfl⟩ | ⟨hn, rfl⟩
      · exact same _ _ (sameContext_finish _) (rejected e _ hP)
      · exact same _ _ (sameContext_finish _) (accepted i _ hn hP)

/-! ### When a command is accepted (R201) -/

theorem check_keyset_eq_none {n : Nat} {s : State} : check (.keyset n) s = none ↔ n = 16 := by
  simp [check_eq_none, lenError, permitted, overLimit]

theorem check_nonce_eq_none {n : Nat} {s : State} :
    check (.nonce n) s = none ↔
      (1 ≤ n ∧ n ≤ 16) ∧ (s.phase = .nonce ∧ s.ncl = false) ∧ s.nbytes.toNat + n ≤ 2 ^ 61 - 1 := by
  rw [check_eq_none, permitted_nonce, ← Bool.not_eq_true (overLimit _ _), overLimit_nonce, not_lt]
  simp [lenError]

theorem check_start_eq_none {n : Nat} {d : Direction} {s : State} :
    check (.start n d) s = none ↔ n = 0 ∧ s.phase = .nonce ∧ 1 ≤ s.nbytes.toNat := by
  rw [check_eq_none, permitted_start]
  simp [lenError, overLimit]

theorem check_aad_eq_none {n : Nat} {s : State} :
    check (.aad n) s = none ↔
      (1 ≤ n ∧ n ≤ 16) ∧ (s.phase = .aad ∧ s.acl = false) ∧ s.abytes.toNat + n ≤ 2 ^ 61 - 1 := by
  rw [check_eq_none, permitted_aad, ← Bool.not_eq_true (overLimit _ _), overLimit_aad, not_lt]
  simp [lenError]

theorem check_data_eq_none {n : Nat} {s : State} :
    check (.data n) s = none ↔
      (1 ≤ n ∧ n ≤ 16) ∧ ((s.phase = .aad ∨ s.phase = .data) ∧ s.dcl = false) ∧
        s.dbytes.toNat + n ≤ 2 ^ 36 - 32 := by
  rw [check_eq_none, permitted_data, ← Bool.not_eq_true (overLimit _ _), overLimit_data, not_lt]
  simp [lenError]

theorem check_final_eq_none {n : Nat} {s : State} :
    check (.final n) s = none ↔
      (1 ≤ n ∧ n ≤ 16) ∧ (s.phase = .aad ∨ s.phase = .data) ∧ s.dir = .encrypt := by
  rw [check_eq_none, permitted_final]
  simp [lenError, overLimit]

theorem check_verify_eq_none {n : Nat} {s : State} :
    check (.verify n) s = none ↔
      (1 ≤ n ∧ n ≤ 16) ∧ (s.phase = .aad ∨ s.phase = .data) ∧ s.dir = .decrypt := by
  rw [check_eq_none, permitted_verify]
  simp [lenError, overLimit]

theorem check_ecb_eq_none {n : Nat} {s : State} :
    check (.ecb n) s = none ↔ n = 0 ∧ s.phase ≠ .fresh := by
  rw [check_eq_none, permitted_ecb]
  simp [lenError, overLimit]

theorem check_gmul_eq_none {n : Nat} {s : State} : check (.gmul n) s = none ↔ n = 0 := by
  simp [check_eq_none, lenError, permitted, overLimit]

theorem check_clear_eq_none {n : Nat} {s : State} : check (.clear n) s = none ↔ n = 0 := by
  simp [check_eq_none, lenError, permitted, overLimit]

/-! ### The commands that discard the context -/

/-- KEYSET, accepted or not, and a well-formed CLEAR: the commands after which no part of the old message
state is left (R108, R167, R202). -/
def discards (i : Instr) : Prop := (∃ n, i = .keyset n) ∨ i = .clear 0

/-- A rejected command that does not discard the context keeps everything but the phase and ERR (R202). -/
theorem reject_of_not_discards {i : Instr} {s : State} {e : ErrCode} (h : check i s = some e)
    (hd : ¬ discards i) :
    reject e s = { s with phase := if inMessage s.phase then .failed else s.phase, err := e } := by
  refine reject_of_ne ?_ s
  rcases check_codes h with ⟨_, n, _, hi⟩ | ⟨he, _⟩
  · exact absurd (.inl ⟨n, hi⟩) hd
  · rcases he with rfl | rfl <;> decide

/-- A rejection leaves a state outside FRESH only where it found one. -/
theorem phase_ne_fresh_of_reject {e : ErrCode} {s : State} (h : (reject e s).phase ≠ .fresh) :
    e ≠ .invalidKeyLength ∧ s.phase ≠ .fresh := by
  have he : e ≠ .invalidKeyLength := by rintro rfl; exact h rfl
  refine ⟨he, fun hp => h ?_⟩
  simp [reject_of_ne he, hp, inMessage]

/-- An accepted command that does not discard the context keeps the round keys and the hash subkey, and all
but START keep J0 (R31 to R33). -/
theorem effectOf_keeps_keys {i : Instr} {s u : State} (h : check i s = none) (hd : ¬ discards i) :
    (effectOf i u).rk = u.rk ∧ (effectOf i u).h = u.h ∧
      ((∀ d, i ≠ .start 0 d) → (effectOf i u).j0 = u.j0) := by
  cases i with
  | keyset n => exact absurd (.inl ⟨n, rfl⟩) hd
  | clear n => exact absurd (.inr (congrArg _ (check_clear_eq_none.mp h))) hd
  | start n d =>
    obtain rfl := (check_start_eq_none.mp h).1
    exact ⟨rfl, rfl, fun hne => absurd rfl (hne d)⟩
  | _ => simp [effectOf]

/-- Only a KEYSET or a CLEAR writes the round keys and the hash subkey, and only those and START write J0
(R31 to R33). -/
theorem exec_keeps_keys {i : Instr} {s t : State} (h : exec i s = .next t) (hd : ¬ discards i) :
    t.rk = s.rk ∧ t.h = s.h ∧ ((∀ d, i ≠ .start 0 d) → t.j0 = s.j0) := by
  rcases exec_cases h with ⟨e, he, rfl⟩ | ⟨hc, rfl⟩
  · simp [reject_of_not_discards he hd]
  · exact effectOf_keeps_keys hc hd

/-- From FRESH only KEYSET leads out of FRESH (R160, R161). -/
theorem phase_ne_fresh_of_accepted {i : Instr} {s : State} (h : check i s = none)
    (hd : ¬ discards i) (hp : (effectOf i { s with err := .none }).phase ≠ .fresh) :
    s.phase ≠ .fresh := by
  cases i with
  | keyset n => exact absurd (.inl ⟨n, rfl⟩) hd
  | nonce n => rw [(check_nonce_eq_none.mp h).2.1.1]; decide
  | start n d => rw [(check_start_eq_none.mp h).2.1]; decide
  | aad n => rw [(check_aad_eq_none.mp h).2.1.1]; decide
  | data n => rcases (check_data_eq_none.mp h).2.1.1 with e | e <;> rw [e] <;> decide
  | final n => rcases (check_final_eq_none.mp h).2.1 with e | e <;> rw [e] <;> decide
  | verify n => rcases (check_verify_eq_none.mp h).2.1 with e | e <;> rw [e] <;> decide
  | ecb n => exact (check_ecb_eq_none.mp h).2
  | gmul n => exact hp
  | clear n => exact absurd rfl hp

end Sys2Proof.Machine
end

section
/-! The invariants of 10_state.md R40 and R32: they hold after reset and every step keeps them; and who
writes the key state and the tables (R31 to R33, R38). -/

namespace Sys2Proof.Machine

/-! ### Byte counters and closed flags -/

/-- A counter below its limit counts exactly (R35). -/
theorem toNat_countBytes {c : Counter} {n : Nat} (h : c.toNat + n < 2 ^ 64) :
    (countBytes c n).toNat = c.toNat + n := by
  rw [countBytes, BitVec.toNat_add, BitVec.toNat_ofNat]
  omega

/-- Only a full block leaves an open section open (R29). -/
theorem closedAfter_false_eq_false {n : Nat} : closedAfter false n = false ↔ 16 ≤ n := by
  simp [closedAfter]

/-- A section that is still open after an accepted block holds whole blocks only. -/
theorem countBytes_whole {c : Counter} {flag : Bool} {n : Nat} (hc : flag = false → c.toNat % 16 = 0)
    (hf : flag = false) (hn : n ≤ 16) (hlt : c.toNat + n < 2 ^ 64)
    (ho : closedAfter flag n = false) : (countBytes c n).toNat % 16 = 0 := by
  subst hf
  have hfull := closedAfter_false_eq_false.mp ho
  have hwhole := hc rfl
  rw [toNat_countBytes hlt]
  omega

/-! ### The invariants of the context (R40) -/

/-- An empty context in FRESH has the invariants. -/
theorem contextInvariant_of_contextZero {s : State} (hz : contextZero s) (hp : s.phase = .fresh) :
    ContextInvariant s := by
  obtain ⟨_, _, _, _, hn, ha, hd, _, _, _, _⟩ := id hz
  constructor <;> simp [hp, hn, ha, hd, hz]

theorem contextInvariant_of_sameContext {s t : State} (h : sameContext s t)
    (hs : ContextInvariant s) : ContextInvariant t := by
  rw [h]
  exact { hs with }

/-- A rejection keeps the invariants: it empties the context, or leaves its message. -/
theorem contextInvariant_reject (e : ErrCode) {s : State} (hs : ContextInvariant s) :
    ContextInvariant (reject e s) := by
  by_cases he : e = .invalidKeyLength
  · subst he
    exact contextInvariant_of_contextZero (by simp [contextZero, reject]) rfl
  · rw [reject_of_ne he]
    cases hp : s.phase with
    | fresh => exact { hs with
        freshZero := fun _ => hs.freshZero hp, nonceTaken := nofun, nonceStart := nofun }
    | _ => exact { hs with freshZero := nofun, nonceTaken := nofun, nonceStart := nofun }

/-- An accepted command keeps the invariants. -/
theorem contextInvariant_effectOf {i : Instr} {s : State} (hc : check i s = none)
    (hs : ContextInvariant s) : ContextInvariant (effectOf i { s with err := .none }) := by
  cases i with
  | keyset n => constructor <;> simp [effectOf]
  | clear n => exact contextInvariant_of_contextZero (by simp [contextZero, effectOf]) rfl
  | nonce n =>
    obtain ⟨⟨_, hn⟩, ⟨hp, hncl⟩, hle⟩ := check_nonce_eq_none.mp hc
    have hlt : s.nbytes.toNat + n < 2 ^ 64 := by omega
    exact { hs with
      nonceWhole := countBytes_whole hs.nonceWhole hncl hn hlt
      nonceBound := (toNat_countBytes hlt).trans_le hle
      freshZero := fun h => nomatch hp.symm.trans h
      nonceTaken := fun h => by simp [effectOf, hp] at h }
  | start n d =>
    obtain ⟨_, _, hn⟩ := check_start_eq_none.mp hc
    exact { hs with freshZero := nofun, nonceTaken := fun _ => hn, nonceStart := nofun }
  | aad n =>
    obtain ⟨⟨_, hn⟩, ⟨hp, hacl⟩, hle⟩ := check_aad_eq_none.mp hc
    have hlt : s.abytes.toNat + n < 2 ^ 64 := by omega
    exact { hs with
      aadWhole := countBytes_whole hs.aadWhole hacl hn hlt
      aadBound := (toNat_countBytes hlt).trans_le hle
      freshZero := fun h => nomatch hp.symm.trans h
      nonceStart := fun h => nomatch hp.symm.trans h }
  | data n =>
    obtain ⟨⟨_, hn⟩, ⟨hp, hdcl⟩, hle⟩ := check_data_eq_none.mp hc
    have hlt : s.dbytes.toNat + n < 2 ^ 64 := by omega
    exact { hs with
      dataWhole := countBytes_whole hs.dataWhole hdcl hn hlt
      dataBound := (toNat_countBytes hlt).trans_le hle
      freshZero := nofun
      nonceTaken := fun _ => hs.nonceTaken (hp.imp_right .inl)
      nonceStart := nofun }
  | final n =>
    have hp := (check_final_eq_none.mp hc).2.1
    exact { hs with
      freshZero := nofun
      nonceTaken := fun _ => hs.nonceTaken (hp.imp_right .inl)
      nonceStart := nofun }
  | verify n =>
    have hp := (check_verify_eq_none.mp hc).2.1
    exact { hs with
      freshZero := nofun
      nonceTaken := fun _ => hs.nonceTaken (hp.imp_right .inl)
      nonceStart := nofun }
  | ecb n => exact { hs with }
  | gmul n => exact { hs with }

/-- Settles O47: no access, rejection or accepted command, and no reset, breaks an invariant. -/
theorem stepKeepsContextInvariant : Obligations.StepKeepsContextInvariant :=
  fun _ _ hs h => step_preserves (fun _ _ => contextInvariant_of_sameContext)
    (fun e _ => contextInvariant_reject e) (fun _ _ => contextInvariant_effectOf) hs h

/-! ### The hash subkey and the round keys (R32) -/

theorem subkeyInvariant_of_sameContext {s t : State} (h : sameContext s t)
    (hs : SubkeyInvariant s) : SubkeyInvariant t := by
  rw [h]
  exact hs

theorem subkeyInvariant_reject (e : ErrCode) {s : State} (hs : SubkeyInvariant s) :
    SubkeyInvariant (reject e s) := by
  intro hp
  obtain ⟨he, hps⟩ := phase_ne_fresh_of_reject hp
  rw [reject_of_ne he]
  exact hs hps

/-- No accepted command writes the tables or P_BASE (R38). -/
theorem effectOf_tables (i : Instr) (s : State) :
    (effectOf i s).tables = s.tables ∧ (effectOf i s).pBase = s.pBase := by
  cases i <;> simp [effectOf]

/-- An accepted KEYSET makes the subkey from its new round keys, CLEAR leads to FRESH, and the others keep
both and do not leave FRESH. -/
theorem subkeyInvariant_effectOf {i : Instr} {s : State} (hc : check i s = none)
    (hs : SubkeyInvariant s) : SubkeyInvariant (effectOf i { s with err := .none }) := by
  intro hp
  by_cases hd : discards i
  · rcases hd with ⟨n, rfl⟩ | rfl
    · simp [effectOf]
    · exact absurd rfl hp
  · obtain ⟨hrk, hh, _⟩ := effectOf_keeps_keys (u := { s with err := .none }) hc hd
    rw [hrk, hh, (effectOf_tables i _).1]
    exact hs (phase_ne_fresh_of_accepted hc hd hp)

/-- Settles O49: the subkey and the round keys are written together or not at all. -/
theorem stepKeepsSubkeyInvariant : Obligations.StepKeepsSubkeyInvariant :=
  fun _ _ hs h => step_preserves (fun _ _ => subkeyInvariant_of_sameContext)
    (fun e _ => subkeyInvariant_reject e) (fun _ _ => subkeyInvariant_effectOf) hs h

/-- Settles O48: reset leaves an empty context in FRESH, of which R32 says nothing. -/
theorem resetHasTheInvariants : Obligations.ResetHasTheInvariants :=
  ⟨contextInvariant_of_contextZero (by simp [contextZero, State.reset]) rfl,
    fun hp => absurd rfl hp⟩

/-! ### Who writes the tables and the key state -/

/-- No rejection writes the tables or P_BASE (R38). -/
theorem reject_tables (e : ErrCode) (s : State) :
    (reject e s).tables = s.tables ∧ (reject e s).pBase = s.pBase := by
  cases e <;> exact ⟨rfl, rfl⟩

/-- Settles O50: holding these tables and this P_BASE is kept by every step. -/
theorem tablesAreNeverWritten : Obligations.TablesAreNeverWritten := by
  intro s t h
  refine step_preserves (P := fun u => u.tables = s.tables ∧ u.pBase = s.pBase)
    (fun u v huv hu => ?_) (fun e u hu => ?_) (fun i u _ hu => ?_) ⟨rfl, rfl⟩ h
  · rw [huv]; exact hu
  · rwa [(reject_tables e u).1, (reject_tables e u).2]
  · rwa [(effectOf_tables i _).1, (effectOf_tables i _).2]

/-- What a step that is no reset and completes no KEYSET or CLEAR keeps of the key state; J0 it keeps where
it completes no START either. -/
theorem step_keeps_keys {s t : State} (h : step s = .next t)
    (hr : ∀ rest, s.agenda ≠ .reset :: rest)
    (hd : s.busy = true → ∀ i, decode s.latch = .ok i → ¬ discards i) :
    t.rk = s.rk ∧ t.h = s.h ∧
      ((s.busy = true → ∀ d, decode s.latch ≠ .ok (.start 0 d)) → t.j0 = s.j0) := by
  rcases step_context_cases h with hst | ⟨rest, ha, _⟩ | ⟨hb, rest, hc⟩
  · rw [hst]; exact ⟨rfl, rfl, fun _ => rfl⟩
  · exact absurd ha (hr rest)
  · rcases complete_cases hc with ⟨_, _, rfl⟩ | ⟨i, u, hi, hx, rfl⟩
    · exact ⟨rfl, rfl, fun _ => rfl⟩
    · obtain ⟨hrk, hh, hj⟩ := exec_keeps_keys hx (hd hb i hi)
      exact ⟨hrk, hh, fun hs => hj fun d hid => hs hb d (hid ▸ hi)⟩

/-- Settles O51, by contraposition of what a step keeps of the key state. -/
theorem writersOfTheKeyState : Obligations.WritersOfTheKeyState := by
  intro s t h
  by_cases hr : ∃ rest, s.agenda = .reset :: rest
  · exact ⟨fun _ => .inl hr, fun _ => .inl hr⟩
  by_cases hd : s.busy = true ∧ ∃ i, decode s.latch = .ok i ∧ discards i
  · obtain ⟨hb, i, hi, ⟨n, rfl⟩ | rfl⟩ := hd
    · exact ⟨fun _ => .inr ⟨hb, .inl ⟨n, hi⟩⟩, fun _ => .inr ⟨hb, .inl ⟨n, hi⟩⟩⟩
    · exact ⟨fun _ => .inr ⟨hb, .inr hi⟩, fun _ => .inr ⟨hb, .inr (.inl hi)⟩⟩
  obtain ⟨hrk, hh, hj⟩ := step_keeps_keys h (fun rest ha => hr ⟨rest, ha⟩)
    (fun hb i hi hdi => hd ⟨hb, i, hi, hdi⟩)
  refine ⟨fun hne => (hne.elim (· hrk) (· hh)).elim, fun hne => ?_⟩
  by_contra hno
  exact hne (hj fun hb d hs => hno (.inr ⟨hb, .inr (.inr ⟨d, hs⟩)⟩))

end Sys2Proof.Machine
end

section
/-! The register window as the host sees it: single accesses as steps, the operand registers, STATUS, what
no read can tell apart, and the values after reset (10_state.md R20 to R28, R39, R41). -/

namespace Sys2Proof.Machine

/-! ### One access to a word of the window -/

theorem step_of_agenda {s : State} {tn : Turn} {rest : List Turn} (h : s.agenda = tn :: rest) :
    step s = takeTurn tn { s with agenda := rest } := by
  rw [step, h]

theorem step_host {s : State} {a : Access} {rest : List Turn} (h : s.agenda = .host a :: rest) :
    step s = serve a { s with agenda := rest } :=
  step_of_agenda h

theorem readReg_setAgenda (r : Reg) (s : State) (l : List Turn) :
    readReg r { s with agenda := l } = readReg r s := by
  cases r <;> rfl

theorem writeReg_setAgenda (r : Reg) (v : Word) (s : State) (l : List Turn) :
    writeReg r v { s with agenda := l } = { writeReg r v s with agenda := l } := by
  cases r <;> rfl

/-- With BUSY = 0 a read of a word of the window appends its value to the replies (R57). -/
theorem step_read_idle {s : State} {off : Nat} {rest : List Turn} (hb : s.busy = false)
    (hoff : off < 0x100) (h4 : off % 4 = 0)
    (h : s.agenda = .host (.read (windowAddr s off) 4) :: rest) :
    step s = .next { s with agenda := rest, replies := readReg (regAt off) s :: s.replies } := by
  rw [step_host h]
  refine (serve_read (s := { s with agenda := rest }) hoff h4).trans ?_
  rw [readAccess, if_neg (by simp [hb]), readReg_setAgenda]

/-- With BUSY = 0 a write to a word of the window writes its register (R57). -/
theorem step_write_idle {s : State} {off : Nat} {v : Word} {rest : List Turn} (hb : s.busy = false)
    (hoff : off < 0x100) (h4 : off % 4 = 0)
    (h : s.agenda = .host (.write (windowAddr s off) 4 v) :: rest) :
    step s = .next { writeReg (regAt off) v s with agenda := rest } := by
  rw [step_host h, ← writeReg_setAgenda]
  exact serve_write (s := { s with agenda := rest }) hoff h4 hb

/-- Settles O19: the frame of an access, at the state whose turn it is. -/
theorem hostAccessLeavesTheContext : Obligations.HostAccessLeavesTheContext := by
  intro s t a rest ha h
  rw [step_host ha] at h
  exact serve_frame h

/-! ### The words of a group (R21, R54) -/

theorem quadGet_quadSet (q : Quad) (i : Nat) (x : Word) : quadGet (quadSet q i x) i = x := by
  have hi : i % 4 = 0 ∨ i % 4 = 1 ∨ i % 4 = 2 ∨ i % 4 = 3 := by omega
  rcases hi with h | h | h | h <;> simp [quadGet, quadSet, h]

@[simp] theorem quadGet_zeroQuad (i : Nat) : quadGet zeroQuad i = 0 := by
  unfold quadGet
  split <;> rfl

/-- Word i of a group's block is the group's word i. -/
theorem load32_quadBlock (q : Quad) {i : Nat} (hi : i < 4) :
    load32 (quadBlock q) i = quadGet q i := by
  have h := blockQuad_quadBlock q
  interval_cases i
  · exact congrArg Quad.w0 h
  · exact congrArg Quad.w1 h
  · exact congrArg Quad.w2 h
  · exact congrArg Quad.w3 h

/-- Byte 4i + j of a block is byte j of its word i, from the most significant (R11, R12). -/
theorem byteAt_word (b : Block) {i j : Nat} (hi : i < 4) (hj : j < 4) :
    byteAt b (4 * i + j) = (load32 b i).extractLsb' (24 - 8 * j) 8 := by
  apply BitVec.eq_of_getLsbD_eq
  intro k hk
  have hpos : 8 * (15 - (4 * i + j)) + k = 32 * (3 - i) + (24 - 8 * j + k) := by omega
  rw [getLsbD_byteAt _ _ _ hk, hpos]
  simp [load32, hk, show 24 - 8 * j + k < 32 by omega]

/-! ### The operand registers (R21, R25, R26) -/

theorem regAt_key {off : Nat} (h4 : off % 4 = 0) (h : 0x08 ≤ off ∧ off ≤ 0x14) :
    regAt off = .key ((off - 0x08) / 4) := by
  have : off = 0x08 ∨ off = 0x0C ∨ off = 0x10 ∨ off = 0x14 := by omega
  rcases this with rfl | rfl | rfl | rfl <;> rfl

theorem regAt_din {off : Nat} (h4 : off % 4 = 0) (h : 0x18 ≤ off ∧ off ≤ 0x24) :
    regAt off = .din ((off - 0x18) / 4) := by
  have : off = 0x18 ∨ off = 0x1C ∨ off = 0x20 ∨ off = 0x24 := by omega
  rcases this with rfl | rfl | rfl | rfl <;> rfl

theorem regAt_tagin {off : Nat} (h4 : off % 4 = 0) (h : 0x38 ≤ off ∧ off ≤ 0x44) :
    regAt off = .tagin ((off - 0x38) / 4) := by
  have : off = 0x38 ∨ off = 0x3C ∨ off = 0x40 ∨ off = 0x44 := by omega
  rcases this with rfl | rfl | rfl | rfl <;> rfl

theorem regAt_gmy {off : Nat} (h4 : off % 4 = 0) (h : 0x58 ≤ off ∧ off ≤ 0x64) :
    regAt off = .gmy ((off - 0x58) / 4) := by
  have : off = 0x58 ∨ off = 0x5C ∨ off = 0x60 ∨ off = 0x64 := by omega
  rcases this with rfl | rfl | rfl | rfl <;> rfl

/-- A write to a readable operand register is what the next read of it returns. -/
theorem readReg_writeReg {r : Reg} (v : Word) (s : State)
    (h : (∃ i, r = .din i) ∨ (∃ i, r = .tagin i) ∨ ∃ i, r = .gmy i) :
    readReg r (writeReg r v s) = v := by
  rcases h with ⟨i, rfl⟩ | ⟨i, rfl⟩ | ⟨i, rfl⟩ <;> exact quadGet_quadSet _ _ _

/-- Only a write to CMD changes BUSY, and no write changes the replies or P_BASE. -/
theorem writeReg_keeps (r : Reg) (v : Word) (s : State) :
    (r ≠ .cmd → (writeReg r v s).busy = s.busy) ∧
      (writeReg r v s).replies = s.replies ∧ (writeReg r v s).pBase = s.pBase := by
  cases r <;> simp [writeReg]

/-- A write to a word of the window other than CMD, and then a read of the same word. -/
theorem run_write_read {s : State} {off : Nat} {v : Word} {rest : List Turn} (hb : s.busy = false)
    (hoff : off < 0x100) (h4 : off % 4 = 0) (hcmd : regAt off ≠ .cmd)
    (h : s.agenda = .host (.write (windowAddr s off) 4 v) ::
      .host (.read (windowAddr s off) 4) :: rest) :
    Sys2Proof.core.run 2 s = .next { writeReg (regAt off) v s with
      agenda := rest
      replies := readReg (regAt off) (writeReg (regAt off) v s) :: s.replies } := by
  obtain ⟨hbusy, hreplies, hbase⟩ := writeReg_keeps (regAt off) v s
  have hread := step_read_idle (rest := rest) (off := off)
    (s := { writeReg (regAt off) v s with agenda := .host (.read (windowAddr s off) 4) :: rest })
    ((hbusy hcmd).trans hb) hoff h4 (by simp [windowAddr, hbase])
  rw [run_succ_of_next (step_write_idle hb hoff h4 h), run_succ_of_next hread, run_zero,
    readReg_setAgenda, hreplies]

/-- Settles O16: the register at each offset, then the rules of one write, one read and their run. -/
theorem operandRegistersReadBack : Obligations.OperandRegistersReadBack := by
  refine ⟨fun q x => ⟨rfl, rfl, rfl, rfl, rfl, rfl, rfl, rfl⟩, fun q i j hi hj => ?_,
    fun s off v rest hb h4 => ⟨fun h => ?_, fun h => ?_, fun h => ⟨fun ho => ?_, fun ho => ?_⟩⟩⟩
  · rw [byteAt_word _ hi hj, load32_quadBlock q hi]
  · refine ⟨fun ho => ?_, fun ho => ?_, fun ho => ?_, fun ho => ?_⟩ <;>
      rw [step_write_idle hb (by omega) h4 h]
    · rw [regAt_key h4 ho]; rfl
    · rw [regAt_din h4 ho]; rfl
    · rw [regAt_tagin h4 ho]; rfl
    · rw [regAt_gmy h4 ho]; rfl
  · refine ⟨fun ho => ?_, fun ho => ?_, fun ho => ?_⟩ <;> rw [step_read_idle hb (by omega) h4 h]
    · rw [regAt_din h4 ho]; rfl
    · rw [regAt_tagin h4 ho]; rfl
    · rw [regAt_gmy h4 ho]; rfl
  · have hr : (∃ i, regAt off = .din i) ∨ (∃ i, regAt off = .tagin i) ∨ ∃ i, regAt off = .gmy i := by
      rcases ho with ho | ho | ho
      · exact .inl ⟨_, regAt_din h4 ho⟩
      · exact .inr (.inl ⟨_, regAt_tagin h4 ho⟩)
      · exact .inr (.inr ⟨_, regAt_gmy h4 ho⟩)
    have hcmd : regAt off ≠ .cmd := by
      rcases hr with ⟨i, e⟩ | ⟨i, e⟩ | ⟨i, e⟩ <;> rw [e] <;> nofun
    exact ⟨_, run_write_read hb (by omega) h4 hcmd h,
      congrArg (· :: s.replies) (readReg_writeReg v s hr)⟩
  · have hk := regAt_key h4 ho
    refine ⟨_, run_write_read hb (by omega) h4 (by rw [hk]; nofun) h, ?_, ?_⟩ <;> rw [hk] <;> rfl

/-! ### STATUS (R22, R27, R28) -/

/-- STATUS as its fields side by side, the reserved bits between them 0. -/
theorem statusWord_eq_append (s : State) :
    statusWord s = 0#17 ++ BitVec.ofBool s.dcl ++ BitVec.ofBool s.acl ++ BitVec.ofBool s.ncl ++
      0#1 ++ errCode s.err ++ dirCode s.dir ++ phaseCode s.phase ++ 0#3 ++ BitVec.ofBool s.busy := by
  apply BitVec.eq_of_getLsbD_eq
  intro i hi
  simp only [statusWord, statusField, BitVec.getLsbD_or, BitVec.getLsbD_shiftLeft,
    BitVec.getLsbD_setWidth, BitVec.getLsbD_append]
  interval_cases i <;> simp

/-- A field of a word, bit by bit. -/
theorem extractLsb'_eq_of_getLsbD {w : Word} {pos len : Nat} {v : BitVec len}
    (h : ∀ i < len, w.getLsbD (i + pos) = v.getLsbD i) : w.extractLsb' pos len = v := by
  apply BitVec.eq_of_getLsbD_eq
  intro i hi
  rw [BitVec.getLsbD_extractLsb', Nat.add_comm pos, h i hi]
  simp [hi]

/-- The fields of STATUS that are wider than a bit. -/
theorem statusWord_fields (s : State) :
    (statusWord s).extractLsb' 1 3 = 0 ∧ (statusWord s).extractLsb' 4 3 = phaseCode s.phase ∧
      (statusWord s).extractLsb' 7 1 = dirCode s.dir ∧
      (statusWord s).extractLsb' 8 3 = errCode s.err ∧ (statusWord s).extractLsb' 15 17 = 0 := by
  have above : ∀ i, ¬ i + 7 < 3 ∧ ¬ i + 4 < 3 := fun i => by omega
  rw [statusWord_eq_append]
  refine ⟨?_, ?_, ?_, ?_, ?_⟩ <;> refine extractLsb'_eq_of_getLsbD fun i hi => ?_ <;>
    simp only [BitVec.getLsbD_append] <;> simp [hi, above]

/-- The single bits of STATUS. -/
theorem statusWord_bits (s : State) :
    (statusWord s).getLsbD 0 = s.busy ∧ (statusWord s).getLsbD 11 = false ∧
      (statusWord s).getLsbD 12 = s.ncl ∧ (statusWord s).getLsbD 13 = s.acl ∧
      (statusWord s).getLsbD 14 = s.dcl := by
  rw [statusWord_eq_append]
  simp only [BitVec.getLsbD_append]
  simp

/-- Settles O17: the fields are read off the layout, and the offset off the register map. -/
theorem statusWordLayout : Obligations.StatusWordLayout := by
  refine ⟨⟨rfl, rfl, rfl, rfl, rfl, rfl⟩, ⟨rfl, rfl⟩, ⟨rfl, rfl, rfl, rfl, rfl⟩, fun s rest => ?_⟩
  obtain ⟨hbusy, h11, hncl, hacl, hdcl⟩ := statusWord_bits s
  obtain ⟨h1, hphase, hdir, herr, h15⟩ := statusWord_fields s
  exact ⟨hbusy, h1, hphase, hdir, herr, h11, hncl, hacl, hdcl, h15,
    fun hb h => step_read_idle hb (by decide) rfl h⟩

/-! ### What no read can tell apart (R41, R52) -/

theorem statusWord_congr {s t : State} (h : sameReadable s t) : statusWord s = statusWord t := by
  obtain ⟨-, -, -, -, -, -, -, -, hdir, hphase, herr, hncl, hacl, hdcl, hbusy⟩ := h
  simp only [statusWord, hdir, hphase, herr, hncl, hacl, hdcl, hbusy]

theorem busy_congr {s t : State} (h : sameReadable s t) : s.busy = t.busy := by
  obtain ⟨-, -, -, -, -, -, -, -, -, -, -, -, -, -, hbusy⟩ := h
  exact hbusy

theorem readReg_congr {s t : State} (h : sameReadable s t) (r : Reg) :
    readReg r s = readReg r t := by
  have hstatus := statusWord_congr h
  obtain ⟨hdin, hdout, htagin, htagout, hgmy, hn, ha, hd, -⟩ := h
  cases r <;> simp only [readReg, hstatus, hdin, hdout, htagin, htagout, hgmy, hn, ha, hd]

theorem busyValue_congr {s t : State} (h : s.freeCount = t.freeCount) (r : Reg) :
    busyValue r s = busyValue r t := by
  cases r <;> simp only [busyValue, h]

/-- The reply of a read depends on what is readable, and for a busy engine on the draws made. -/
theorem readAccess_replies_congr {s t : State} (h : sameReadable s t)
    (hf : s.busy = true → s.freeCount = t.freeCount) (hr : s.replies = t.replies) (r : Reg) :
    (readAccess r s).replies = (readAccess r t).replies := by
  have hbusy := busy_congr h
  cases hb : s.busy with
  | false => simp [readAccess, hb, ← hbusy, readReg_congr h r, hr]
  | true => simp [readAccess, hb, ← hbusy, busyValue_congr (hf hb) r, hr]

theorem serve_of_not_touching {a : Access} {s : State} (h : touchesWindow a s = false) :
    serve a s = .next s := by
  simp [serve, h]

theorem serve_read_of_wellFormed {addr n : Nat} {s : State}
    (ht : touchesWindow (.read addr n) s = true) (hw : wellFormedAccess (.read addr n) s = true) :
    serve (.read addr n) s = .next (readAccess (regAt (addr - s.pBase)) s) := by
  simp [serve, ht, hw]

/-- Whether an access reaches the window, and in what form, depends on P_BASE alone. -/
theorem window_congr {s t : State} (h : s.pBase = t.pBase) (a : Access) :
    touchesWindow a s = touchesWindow a t ∧ wellFormedAccess a s = wellFormedAccess a t := by
  simp only [touchesWindow, wellFormedAccess, h, and_self]

/-- Settles O18: the read takes the same path in both states, and its reply is the same. -/
theorem secretsAreNotReadable : Obligations.SecretsAreNotReadable := by
  intro s t addr width s' h hf hp hr hs
  obtain ⟨htouch, hform⟩ := window_congr hp (.read addr width)
  rcases serve_cases hs with ⟨hn, rfl⟩ | ⟨ht, hw, ⟨_, _, ha, rfl⟩ | ⟨_, _, _, ha, _⟩⟩
  · exact ⟨t, serve_of_not_touching (htouch ▸ hn), hr.symm⟩
  · cases ha
    refine ⟨_, serve_read_of_wellFormed (htouch ▸ ht) (hform ▸ hw), ?_⟩
    rw [← hp]
    exact (readAccess_replies_congr h hf hr _).symm
  · cases ha

/-! ### After reset (R39, R220) -/

/-- Every register and field of R39 is 0. -/
def AllZero (s : State) : Prop :=
  s = { State.reset with
    tables := s.tables, pBase := s.pBase
    agenda := s.agenda, replies := s.replies, freeCount := s.freeCount }

theorem allZero_reset : AllZero State.reset := rfl

theorem allZero_assertReset (s : State) : AllZero (assertReset s) := rfl

theorem readReg_reset (r : Reg) : readReg r State.reset = 0 := by
  cases r with
  | status => decide
  | _ => simp [readReg, State.reset]

/-- The host cannot tell such a state from the one after reset. -/
theorem readReg_of_allZero {s : State} (h : AllZero s) (r : Reg) : readReg r s = 0 := by
  have hsame : sameReadable s State.reset := by rw [h]; simp [sameReadable]
  exact (readReg_congr hsame r).trans (readReg_reset r)

theorem zeroKeys_get (n : Fin 32) : zeroKeys[n] = 0 := by
  simp [zeroKeys]

/-- Settles O8: both kinds of reset leave a state with every register and field 0. -/
theorem resetValuesAreZero : Obligations.ResetValuesAreZero := by
  constructor
  · intro s hs
    have hz : AllZero s := by
      rcases hs with rfl | ⟨u, rest, hu, hstep⟩
      · exact allZero_reset
      · rw [step_of_agenda hu] at hstep
        cases hstep
        exact allZero_assertReset _
    have hstatus : statusWord s = 0 := readReg_of_allZero hz .status
    have hread := fun off => readReg_of_allZero hz (regAt off)
    have hkeys : ∀ n : Fin 32, s.rk[n] = 0 := by rw [hz]; exact zeroKeys_get
    rw [hz] at hstatus hread hkeys ⊢
    exact ⟨rfl, rfl, rfl, rfl, rfl, rfl, hkeys, rfl, rfl, rfl, rfl, rfl, rfl, rfl, rfl, rfl, rfl,
      rfl, rfl, rfl, rfl, rfl, hstatus, hread⟩
  · intro u rest hu
    exact ⟨_, step_of_agenda hu, rfl⟩

end Sys2Proof.Machine
end

section
/-! What a command does to the registers and flags of 10_state.md R26, R29 and R36: who writes DOUT and
TAGOUT, who sets and clears the closed flags, and that input bytes beyond LEN do not matter. -/

namespace Sys2Proof.Machine

/-! ### The output registers (R36) -/

/-- A rejected command leaves DOUT and TAGOUT, or is a KEYSET and zeroes both (R202). -/
theorem reject_outputs {i : Instr} {s : State} {e : ErrCode} (h : check i s = some e) :
    (reject e s).dout = s.dout ∧ (reject e s).tagout = s.tagout ∨
      (∃ n, i = .keyset n) ∧ (reject e s).dout = zeroQuad ∧ (reject e s).tagout = zeroQuad := by
  rcases check_codes h with ⟨rfl, n, _, hi⟩ | ⟨he, _⟩
  · exact .inr ⟨⟨n, hi⟩, rfl, rfl⟩
  · rcases he with rfl | rfl <;> exact .inl ⟨rfl, rfl⟩

/-- Settles O45: rejections first, then the effect of each command. -/
theorem writersOfTheOutputRegisters : Obligations.WritersOfTheOutputRegisters := by
  intro i s t h
  rcases exec_cases h with ⟨e, he, rfl⟩ | ⟨hc, rfl⟩
  · rcases reject_outputs he with ⟨hd, ht⟩ | ⟨hi, hd, ht⟩
    · exact ⟨fun hne => absurd hd hne, fun hne => absurd ht hne⟩
    · exact ⟨fun _ => .inr (.inr ⟨.inl hi, hd⟩), fun _ => .inr ⟨.inr (.inl hi), ht⟩⟩
  · cases i with
    | keyset n => exact ⟨fun _ => .inr (.inr ⟨.inl ⟨n, rfl⟩, rfl⟩),
        fun _ => .inr ⟨.inr (.inl ⟨n, rfl⟩), rfl⟩⟩
    | nonce n | start n d | aad n =>
      exact ⟨fun hne => absurd rfl hne, fun hne => absurd rfl hne⟩
    | data n => exact ⟨fun _ => .inl ⟨.inl ⟨n, rfl⟩, hc⟩, fun hne => absurd rfl hne⟩
    | final n => exact ⟨fun hne => absurd rfl hne, fun _ => .inl ⟨⟨n, rfl⟩, hc⟩⟩
    | verify n =>
      refine ⟨fun hne => .inr (.inl ⟨⟨n, rfl⟩, ?_⟩), fun _ => .inr ⟨.inl ⟨n, rfl⟩, rfl⟩⟩
      have hm : tagsMatch n { s with err := .none } = false := by
        by_contra hm
        simp [effectOf, hm] at hne
      simp [effectOf, hm, zeroQuad]
    | ecb n =>
      obtain rfl := (check_ecb_eq_none.mp hc).1
      exact ⟨fun _ => .inl ⟨.inr (.inl rfl), hc⟩, fun hne => absurd rfl hne⟩
    | gmul n =>
      obtain rfl := check_gmul_eq_none.mp hc
      exact ⟨fun _ => .inl ⟨.inr (.inr rfl), hc⟩, fun hne => absurd rfl hne⟩
    | clear n =>
      obtain rfl := check_clear_eq_none.mp hc
      exact ⟨fun _ => .inr (.inr ⟨.inr rfl, rfl⟩), fun _ => .inr ⟨.inr (.inr rfl), rfl⟩⟩

/-! ### The closed flags (R29) -/

/-- R29 for one section, whose blocks are `block n`: after the command the flag is set exactly where the
context was not discarded and it was set before or the command was an accepted partial block. -/
def closedRule (block : Nat → Instr) (i : Instr) (s : State) (before after : Bool) : Prop :=
  after = true ↔
    ¬ discards i ∧ (before = true ∨ ∃ n, i = block n ∧ n < 16 ∧ check i s = none)

theorem closedAfter_eq_true {flag : Bool} {n : Nat} :
    closedAfter flag n = true ↔ flag = true ∨ n < 16 := by
  simp [closedAfter]

/-- A rejection that discards the context is a KEYSET's. -/
theorem discards_of_reject {i : Instr} {s : State} {e : ErrCode} (h : check i s = some e) :
    discards i ↔ e = .invalidKeyLength := by
  constructor
  · rintro (⟨n, rfl⟩ | rfl)
    · rcases check_codes h with ⟨he, _⟩ | ⟨_, hne⟩
      · exact he
      · exact absurd rfl (hne n)
    · cases h
  · rintro rfl
    rcases check_codes h with ⟨_, n, _, hi⟩ | ⟨he, _⟩
    · exact .inl ⟨n, hi⟩
    · simp at he

theorem exec_closedRule {i : Instr} {s t : State} (h : exec i s = .next t) :
    closedRule .nonce i s s.ncl t.ncl ∧ closedRule .aad i s s.acl t.acl ∧
      closedRule .data i s s.dcl t.dcl := by
  rcases exec_cases h with ⟨e, he, rfl⟩ | ⟨hc, rfl⟩
  · by_cases hd : discards i
    · obtain rfl := (discards_of_reject he).mp hd
      simp [closedRule, hd, reject]
    · simp [closedRule, hd, he, reject_of_not_discards he hd]
  · cases i with
    | clear n =>
      obtain rfl := check_clear_eq_none.mp hc
      simp [closedRule, discards, effectOf]
    | _ => simp [closedRule, discards, effectOf, hc, closedAfter_eq_true]

/-- An open flag becomes set exactly by an accepted partial block of its section. -/
theorem closedRule_of_open {block : Nat → Instr} {i : Instr} {s : State} {before after : Bool}
    (hblock : ∀ n, ¬ discards (block n)) (h : closedRule block i s before after)
    (hb : before = false) :
    after = true ↔ ∃ n, i = block n ∧ n < 16 ∧ check i s = none := by
  rw [closedRule, hb] at h
  simp only [Bool.false_eq_true, false_or] at h
  exact h.trans ⟨fun hi => hi.2, fun ⟨n, hi, hn⟩ => ⟨hi ▸ hblock n, n, hi, hn⟩⟩

/-- A set flag is cleared exactly by a command that discards the context. -/
theorem closedRule_of_closed {block : Nat → Instr} {i : Instr} {s : State} {before after : Bool}
    (h : closedRule block i s before after) (hb : before = true) : after = false ↔ discards i := by
  rw [closedRule, hb] at h
  rw [← Bool.not_eq_true, h]
  simp

theorem not_discards_block (n : Nat) :
    ¬ discards (.nonce n) ∧ ¬ discards (.aad n) ∧ ¬ discards (.data n) := by
  simp [discards]

/-- A block of a closed section is a USAGE_ERROR, whatever its LEN. -/
theorem check_closed_block {s : State} {i : Instr} {n : Nat}
    (h : s.ncl = true ∧ i = .nonce n ∨ s.acl = true ∧ i = .aad n ∨ s.dcl = true ∧ i = .data n) :
    check i s = some .usageError := by
  have hp : permitted i s = false := by
    rcases h with ⟨hf, rfl⟩ | ⟨hf, rfl⟩ | ⟨hf, rfl⟩ <;> simp [permitted, hf]
  cases hl : lenError i with
  | none => exact check_eq_some.mpr (.inr (.inl ⟨hl, hp, rfl⟩))
  | some e =>
    rcases lenError_eq_some hl with ⟨_, m, _, rfl⟩ | ⟨rfl, _⟩
    · simp [permitted] at hp
    · exact check_eq_some.mpr (.inl hl)

/-- Settles O46: R29's rule for each section, read for an open and for a closed flag. -/
theorem closedFlagsRule : Obligations.ClosedFlagsRule := by
  intro i s t h
  obtain ⟨hn, ha, hd⟩ := exec_closedRule h
  refine ⟨closedRule_of_open (fun n => (not_discards_block n).1) hn,
    closedRule_of_open (fun n => (not_discards_block n).2.1) ha,
    closedRule_of_open (fun n => (not_discards_block n).2.2) hd,
    closedRule_of_closed hn, closedRule_of_closed ha, closedRule_of_closed hd, fun n hc => ?_⟩
  rw [exec_of_some (check_closed_block hc)] at h
  cases h
  rfl

/-! ### Input bytes beyond LEN (R26, R123, R164) -/

theorem check_setDin (i : Instr) (s : State) (q : Quad) :
    check i { s with din := q } = check i s := by
  cases i <;> rfl

theorem check_setTagin (i : Instr) (s : State) (q : Quad) :
    check i { s with tagin := q } = check i s := by
  cases i <;> rfl

theorem reject_setDin (e : ErrCode) (s : State) (q : Quad) :
    reject e { s with din := q } = { reject e s with din := q } := by
  cases e <;> rfl

theorem reject_setTagin (e : ErrCode) (s : State) (q : Quad) :
    reject e { s with tagin := q } = { reject e s with tagin := q } := by
  cases e <;> rfl

/-- A command whose effect does not see a change of DIN gives the same result but for DIN. -/
theorem exec_setDin {i : Instr} {s t : State} {q : Quad}
    (heff : effectOf i { s with din := q, err := .none } =
      { effectOf i { s with err := .none } with din := q })
    (h : exec i s = .next t) : exec i { s with din := q } = .next { t with din := q } := by
  rcases exec_cases h with ⟨e, he, rfl⟩ | ⟨hc, rfl⟩
  · rw [exec_of_some ((check_setDin i s q).trans he), reject_setDin]
  · rw [exec_of_none ((check_setDin i s q).trans hc), heff]

/-- A command whose effect does not see a change of TAGIN gives the same result but for TAGIN. -/
theorem exec_setTagin {i : Instr} {s t : State} {q : Quad}
    (heff : effectOf i { s with tagin := q, err := .none } =
      { effectOf i { s with err := .none } with tagin := q })
    (h : exec i s = .next t) : exec i { s with tagin := q } = .next { t with tagin := q } := by
  rcases exec_cases h with ⟨e, he, rfl⟩ | ⟨hc, rfl⟩
  · rw [exec_of_some ((check_setTagin i s q).trans he), reject_setTagin]
  · rw [exec_of_none ((check_setTagin i s q).trans hc), heff]

section

variable {n : Nat} {s : State} {q : Quad}
  (hq : firstBytes n (quadBlock q) = firstBytes n (quadBlock s.din))

include hq

theorem dinBytes_setDin : dinBytes n { s with din := q } = dinBytes n s := hq

theorem dataOut_setDin : dataOut n { s with din := q } = dataOut n s := by
  simp only [dataOut, firstBytes_xor, dinBlock, hq]
  rfl

theorem dataCiphertext_setDin : dataCiphertext n { s with din := q } = dataCiphertext n s := by
  simp only [dataCiphertext, dataOut_setDin hq, dinBytes_setDin hq]

theorem nonceEffect_setDin :
    nonceEffect n { s with din := q } = { nonceEffect n s with din := q } := by
  simp only [nonceEffect, dinBytes_setDin hq]

theorem aadEffect_setDin : aadEffect n { s with din := q } = { aadEffect n s with din := q } := by
  simp only [aadEffect, dinBytes_setDin hq]

theorem dataEffect_setDin : dataEffect n { s with din := q } = { dataEffect n s with din := q } := by
  simp only [dataEffect, dataCiphertext_setDin hq, dataOut_setDin hq]

end

theorem tagsMatch_setTagin {n : Nat} {s : State} {q : Quad}
    (hq : firstBytes n (quadBlock q) = firstBytes n (quadBlock s.tagin)) :
    tagsMatch n { s with tagin := q } = tagsMatch n s := by
  simp only [tagsMatch, taginBlock, hq]
  rfl

theorem verifyEffect_setTagin {n : Nat} {s : State} {q : Quad}
    (hq : firstBytes n (quadBlock q) = firstBytes n (quadBlock s.tagin)) :
    verifyEffect n { s with tagin := q } = { verifyEffect n s with tagin := q } := by
  simp only [verifyEffect, tagsMatch_setTagin hq]
  rfl

/-- Settles O52: the commands see the masked block alone, which the bytes below LEN decide. -/
theorem bytesBeyondLenNeverMatter : Obligations.BytesBeyondLenNeverMatter := by
  intro s t n q hn
  refine ⟨fun hb i hi h => exec_setDin ?_ h, fun hb h => exec_setTagin ?_ h⟩
  · have hq := firstBytes_congr hn hb
    rcases hi with rfl | rfl | rfl
    · exact nonceEffect_setDin (s := { s with err := .none }) hq
    · exact aadEffect_setDin (s := { s with err := .none }) hq
    · exact dataEffect_setDin (s := { s with err := .none }) hq
  · exact verifyEffect_setTagin (s := { s with err := .none }) (firstBytes_congr hn hb)

end Sys2Proof.Machine
end

section
/-! The accesses of 20_memory.md: the ones of a wrong form (R53), the reserved and the restricted offsets of
the window (R51, R54, R55), and what an access leaves behind (R57). -/

namespace Sys2Proof.Machine

/-! ### Accesses of a wrong form (R53) -/

/-- An access that begins in the window and is not a whole aligned word of it reaches the window in a wrong
form. -/
theorem window_malformed {a : Access} {s : State} {off : Nat} (h : off < 0x100)
    (hn : 1 ≤ accessBytes a) (hbad : ¬(accessBytes a = 4 ∧ off % 4 = 0))
    (ha : accessAddr a = windowAddr s off) :
    touchesWindow a s = true ∧ wellFormedAccess a s = false := by
  have hoff : accessAddr a - s.pBase = off := by rw [ha, windowAddr]; omega
  constructor
  · simp only [touchesWindow, ha, windowAddr, windowBytes, Bool.and_eq_true, decide_eq_true_eq]
    exact ⟨⟨by omega, by omega⟩, by omega⟩
  · rw [← Bool.not_eq_true]
    simp only [wellFormedAccess, hoff, Bool.and_eq_true, decide_eq_true_eq]
    exact fun ⟨⟨h4, _⟩, halign⟩ => hbad ⟨h4, halign⟩

/-- The form of an access is looked at before BUSY is (log 7). -/
theorem serve_of_malformed {a : Access} {s : State} (ht : touchesWindow a s = true)
    (hw : wellFormedAccess a s = false) : serve a s = .fault (.busError a) := by
  simp [serve, ht, hw]

/-- Settles O11: the access reaches the window, and BUSY is not asked before its form. -/
theorem malformedAccessIsABusError : Obligations.MalformedAccessIsABusError := by
  rintro s a off width rest hoff hn hbad ha rfl h
  obtain ⟨ht, hw⟩ := window_malformed (s := { s with agenda := rest }) hoff hn hbad ha
  rw [step_host h, serve_of_malformed ht hw]

/-! ### Reserved, write-only and read-only offsets (R21, R51, R54, R55) -/

theorem regAt_reserved {off : Nat} (h : 0x80 ≤ off) : regAt off = .reserved := by
  obtain ⟨n, rfl⟩ := Nat.exists_eq_add_of_le' h
  rfl

theorem regAt_dout {off : Nat} (h4 : off % 4 = 0) (h : 0x28 ≤ off ∧ off ≤ 0x34) :
    regAt off = .dout ((off - 0x28) / 4) := by
  have : off = 0x28 ∨ off = 0x2C ∨ off = 0x30 ∨ off = 0x34 := by omega
  rcases this with rfl | rfl | rfl | rfl <;> rfl

theorem regAt_tagout {off : Nat} (h4 : off % 4 = 0) (h : 0x48 ≤ off ∧ off ≤ 0x54) :
    regAt off = .tagout ((off - 0x48) / 4) := by
  have : off = 0x48 ∨ off = 0x4C ∨ off = 0x50 ∨ off = 0x54 := by omega
  rcases this with rfl | rfl | rfl | rfl <;> rfl

/-- The registers and offsets whose writes are ignored: the read-only and the reserved ones (R21, R51). -/
def Reg.IgnoresWrites : Reg → Prop
  | .cmd | .key _ | .din _ | .tagin _ | .gmy _ => False
  | .status | .dout _ | .tagout _ | .nbytesLo | .nbytesHi | .abytesLo | .abytesHi
  | .dbytesLo | .dbytesHi | .reserved => True

theorem writeReg_of_ignoresWrites {r : Reg} (h : r.IgnoresWrites) (v : Word) (s : State) :
    writeReg r v s = s := by
  cases r with
  | cmd | key | din | tagin | gmy => exact h.elim
  | _ => rfl

theorem regAt_counter_ignoresWrites {off : Nat} (h4 : off % 4 = 0) (h : 0x68 ≤ off ∧ off ≤ 0x7C) :
    (regAt off).IgnoresWrites := by
  have : off = 0x68 ∨ off = 0x6C ∨ off = 0x70 ∨ off = 0x74 ∨ off = 0x78 ∨ off = 0x7C := by omega
  rcases this with rfl | rfl | rfl | rfl | rfl | rfl <;> trivial

theorem regAt_ignoresWrites {off : Nat} (h4 : off % 4 = 0)
    (h : 0x80 ≤ off ∧ off ≤ 0xFC ∨ off = 0x04 ∨ 0x28 ≤ off ∧ off ≤ 0x34 ∨ 0x48 ≤ off ∧ off ≤ 0x54 ∨
      0x68 ≤ off ∧ off ≤ 0x7C) :
    (regAt off).IgnoresWrites := by
  rcases h with ⟨h, -⟩ | rfl | h | h | h
  · rw [regAt_reserved h]; trivial
  · trivial
  · rw [regAt_dout h4 h]; trivial
  · rw [regAt_tagout h4 h]; trivial
  · exact regAt_counter_ignoresWrites h4 h

/-- The reserved and the write-only offsets read 0. -/
theorem readReg_regAt_eq_zero {off : Nat} (h4 : off % 4 = 0)
    (h : 0x80 ≤ off ∧ off ≤ 0xFC ∨ off = 0x00 ∨ 0x08 ≤ off ∧ off ≤ 0x14) (s : State) :
    readReg (regAt off) s = 0 := by
  rcases h with ⟨h, -⟩ | rfl | h
  · rw [regAt_reserved h]; rfl
  · rfl
  · rw [regAt_key h4 h]; rfl

/-- The low half of a counter, as a number (R55). -/
theorem counter_low (c : Counter) : c.extractLsb' 0 32 = BitVec.ofNat 32 c.toNat := rfl

/-- The high half of a counter, as a number (R55). -/
theorem counter_high (c : Counter) :
    c.extractLsb' 32 32 = BitVec.ofNat 32 (c.toNat / 2 ^ 32) := by
  rw [← Nat.shiftRight_eq_div_pow]
  rfl

/-- Settles O14: the register at each offset, then what it reads and that it ignores a write. -/
theorem reservedAndRestrictedOffsets : Obligations.ReservedAndRestrictedOffsets := by
  intro s off rest hb h4
  refine ⟨fun ho h => ?_, fun v hv h => ?_, fun v ho h => ?_⟩
  · rw [step_read_idle hb (by omega) h4 h, readReg_regAt_eq_zero h4 ho]
  · have hread : readReg (regAt off) s = v := by
      rcases hv with hv | hv | hv | hv | hv | hv | hv | hv | hv | hv | hv | hv | hv | hv <;>
        obtain ⟨rfl, rfl⟩ := hv
      iterate 8 rfl
      · exact counter_low s.nbytes
      · exact counter_high s.nbytes
      · exact counter_low s.abytes
      · exact counter_high s.abytes
      · exact counter_low s.dbytes
      · exact counter_high s.dbytes
    rw [step_read_idle hb (by omega) h4 h, hread]
  · rw [step_write_idle hb (by omega) h4 h, writeReg_of_ignoresWrites (regAt_ignoresWrites h4 ho)]

/-! ### What an access leaves behind (R57) -/

theorem regAt_eq_cmd {off : Nat} : regAt off = .cmd ↔ off = 0 := by
  constructor
  · unfold regAt
    split <;> simp
  · rintro rfl; rfl

theorem quadSet_quadSet (q : Quad) (i : Nat) (x : Word) :
    quadSet (quadSet q i x) i x = quadSet q i x := by
  have hi : i % 4 = 0 ∨ i % 4 = 1 ∨ i % 4 = 2 ∨ i % 4 = 3 := by omega
  rcases hi with h | h | h | h <;> simp [quadSet, h]

/-- The same write again leaves what it left the first time. -/
theorem writeReg_writeReg (r : Reg) (v : Word) (s : State) :
    writeReg r v (writeReg r v s) = writeReg r v s := by
  cases r with
  | key | din | tagin | gmy => simp only [writeReg, quadSet_quadSet]
  | _ => rfl

/-- Only a write to CMD changes the latch. -/
theorem writeReg_latch {r : Reg} (h : r ≠ .cmd) (v : Word) (s : State) :
    (writeReg r v s).latch = s.latch := by
  cases r with
  | cmd => exact absurd rfl h
  | _ => rfl

/-- No read returns the model's own agenda or replies. -/
theorem readReg_setReplies (r : Reg) (s : State) (turns : List Turn) (reads : List Word) :
    readReg r { s with agenda := turns, replies := reads } = readReg r s := by
  cases r <;> rfl

/-- Settles O15: the rules of one read and one write, each used twice, and the write to CMD. -/
theorem onlyTheCommandWriteHasASideEffect : Obligations.OnlyTheCommandWriteHasASideEffect := by
  intro s off rest hb hoff h4
  refine ⟨fun h => ?_, fun v hne h => ?_, ?_⟩
  · refine ⟨readReg (regAt off) s, step_read_idle hb hoff h4 h, ?_⟩
    have again := step_read_idle (rest := rest) (off := off)
      (s := { s with agenda := .host (.read (windowAddr s off) 4) :: rest
                     replies := readReg (regAt off) s :: s.replies }) hb hoff h4 rfl
    rwa [readReg_setReplies] at again
  · have hcmd : regAt off ≠ .cmd := regAt_eq_cmd.not.mpr hne
    obtain ⟨hbusy, -, hbase⟩ := writeReg_keeps (regAt off) v s
    have again := step_write_idle (rest := rest) (off := off) (v := v)
      (s := { writeReg (regAt off) v s with
                agenda := .host (.write (windowAddr s off) 4 v) :: rest })
      ((hbusy hcmd).trans hb) hoff h4 (by simp [windowAddr, hbase])
    rw [writeReg_setAgenda _ _ (writeReg (regAt off) v s), writeReg_writeReg] at again
    exact ⟨_, step_write_idle hb hoff h4 h, (hbusy hcmd).trans hb, writeReg_latch hcmd v s, rfl,
      again⟩
  · rintro w rfl h
    exact step_write_idle hb hoff h4 h

end Sys2Proof.Machine
end

section
/-! The encoding of the commands (30_encoding.md): the fields of a word, which words decode to which command,
and R77's numbers. -/

namespace Sys2Proof.Machine

/-! ### The fields of a word (R70, R71) -/

theorem opField_toNat (w : Word) : (opField w).toNat = w.toNat % 256 := by
  simp [opField]

theorem lenField_eq (w : Word) : lenField w = w.toNat / 256 % 256 := by
  simp [lenField, Nat.shiftRight_eq_div_pow]

theorem dirField_toNat (w : Word) : (dirField w).toNat = w.toNat / 65536 % 2 := by
  simp [dirField, BitVec.getLsbD, Nat.toNat_testBit]

theorem rsvField_toNat (w : Word) : (rsvField w).toNat = w.toNat / 131072 := by
  have hw : w.toNat < 2 ^ 32 := w.isLt
  rw [rsvField, BitVec.extractLsb'_toNat, Nat.shiftRight_eq_div_pow]
  omega

/-- RSV as a field is zero exactly where the word is below 2^17. -/
theorem rsvField_eq_zero_iff {w : Word} : rsvField w = 0 ↔ w.toNat / 131072 = 0 := by
  rw [← rsvField_toNat, BitVec.toNat_eq]
  rfl

theorem dirField_eq_true_iff {w : Word} : dirField w = true ↔ w.toNat / 65536 % 2 = 1 := by
  rw [← dirField_toNat]
  cases dirField w <;> simp

/-- The four fields are the whole word. -/
theorem word_eq_of_fields {v w : Word} (hrsv : rsvField v = rsvField w) (hdir : dirField v = dirField w)
    (hlen : lenField v = lenField w) (hop : opField v = opField w) : v = w := by
  have nrsv := congrArg BitVec.toNat hrsv
  have ndir := congrArg Bool.toNat hdir
  have nop := congrArg BitVec.toNat hop
  rw [rsvField_toNat, rsvField_toNat] at nrsv
  rw [dirField_toNat, dirField_toNat] at ndir
  rw [lenField_eq, lenField_eq] at hlen
  rw [opField_toNat, opField_toNat] at nop
  apply BitVec.eq_of_toNat_eq
  omega

/-! ### The opcode table (R72) -/

/-- Every command's OP is one of the ten. -/
theorem opcodeOf_range (i : Instr) : 1 ≤ (opcodeOf i).toNat ∧ (opcodeOf i).toNat ≤ 10 := by
  cases i <;> simp [opcodeOf]

/-- Only START has a DIR bit (R74). -/
theorem opcodeOf_of_dirOf {i : Instr} (h : dirOf i = true) : opcodeOf i = 0x03#8 := by
  cases i with
  | start => rfl
  | _ => cases h

theorem directionOf_directionBit (d : Direction) : directionOf (directionBit d) = d := by
  cases d <;> rfl

theorem directionBit_directionOf (b : Bool) : directionBit (directionOf b) = b := by
  cases b <;> rfl

/-- The table read from a command's own fields gives the command back. -/
theorem commandOf_fields (i : Instr) : commandOf (opcodeOf i) i.len (dirOf i) = some i := by
  cases i with
  | start n d => exact congrArg (fun e => some (Instr.start n e)) (directionOf_directionBit d)
  | _ => rfl

/-- A command that the table gives holds the fields it was read from, the DIR bit of START alone. -/
theorem fields_of_commandOf {op : BitVec 8} {n : Nat} {d : Bool} {i : Instr}
    (h : commandOf op n d = some i) :
    op = opcodeOf i ∧ n = i.len ∧ dirOf i = (d && decide (op = 0x03#8)) := by
  unfold commandOf at h
  split at h <;> cases h <;> refine ⟨rfl, rfl, ?_⟩ <;> simp [dirOf, directionBit_directionOf]

/-- Every OP from 1 to 10 names a command. -/
theorem exists_commandOf {op : BitVec 8} (h1 : 1 ≤ op.toNat) (h10 : op.toNat ≤ 10) (n : Nat) (d : Bool) :
    ∃ i, commandOf op n d = some i := by
  have hop : op = BitVec.ofNat 8 op.toNat := by simp
  rw [hop]
  interval_cases op.toNat <;> exact ⟨_, rfl⟩

/-! ### Decoding (R80) -/

/-- A word decodes to a command exactly where its fields are the command's, RSV zero. -/
theorem decode_eq_ok_iff {w : Word} {i : Instr} :
    decode w = .ok i ↔ rsvField w = 0 ∧ opField w = opcodeOf i ∧ lenField w = i.len ∧
      dirField w = dirOf i := by
  constructor
  · intro h
    unfold decode at h
    split at h
    · cases h
    next hrsv =>
    split at h
    · cases h
    next j hj =>
    split at h
    · cases h
    next hdir =>
    cases h
    obtain ⟨hop, hlen, hd⟩ := fields_of_commandOf hj
    exact ⟨not_not.mp hrsv, hop, hlen, by grind⟩
  · rintro ⟨hrsv, hop, hlen, hdir⟩
    have hstart : ¬ (dirOf i = true ∧ opcodeOf i ≠ 0x03#8) := fun ⟨hd, hne⟩ =>
      hne (opcodeOf_of_dirOf hd)
    simp [decode, hrsv, hop, hlen, hdir, commandOf_fields, hstart]

/-- What does not decode to a command is illegal. -/
theorem decode_error_of_ne_ok {w : Word} (h : ∀ i, decode w ≠ .ok i) : ∃ e, decode w = .error e := by
  cases hw : decode w with
  | error e => exact ⟨e, rfl⟩
  | ok i => exact absurd hw (h i)

/-- Settles O1: the encoding holds the command's fields. -/
theorem decodeOfEncodeIsTheCommand : Obligations.DecodeOfEncodeIsTheCommand := by
  intro i hi
  obtain ⟨hop, hlen, hdir, hrsv⟩ := Laws.EncodeFields.of_len i hi
  exact decode_eq_ok_iff.mpr ⟨hrsv, hop, hlen, hdir⟩

/-- Settles O2: the word and the encoding have the same four fields. -/
theorem encodeOfDecodeIsTheWord : Obligations.EncodeOfDecodeIsTheWord := by
  intro w i h
  obtain ⟨hrsv, hop, hlen, hdir⟩ := decode_eq_ok_iff.mp h
  have hwf : WellFormed i := by
    rw [WellFormed, ← hlen, lenField_eq]
    omega
  obtain ⟨eop, elen, edir, ersv⟩ := Laws.EncodeFields.of_len i hwf
  exact ⟨word_eq_of_fields (ersv.trans hrsv.symm) (edir.trans hdir.symm) (elen.trans hlen.symm)
    (eop.trans hop.symm), hwf⟩

/-- The legal words of R80, by the numbers in their fields, and what they decode to. -/
theorem exists_decode_of_legal {w : Word} (hrsv : w.toNat / 131072 = 0) (h1 : 1 ≤ w.toNat % 256)
    (h10 : w.toNat % 256 ≤ 10) (hdir : w.toNat / 65536 % 2 = 1 → w.toNat % 256 = 3) :
    ∃ i, decode w = .ok i := by
  rw [← opField_toNat] at h1 h10
  obtain ⟨i, hi⟩ := exists_commandOf h1 h10 (lenField w) (dirField w)
  have hstart : ¬ (dirField w = true ∧ opField w ≠ 0x03#8) := by
    rintro ⟨hd, hop⟩
    have h3 := hdir (dirField_eq_true_iff.mp hd)
    rw [← opField_toNat] at h3
    exact hop (BitVec.eq_of_toNat_eq h3)
  exact ⟨i, by simp [decode, rsvField_eq_zero_iff.mpr hrsv, hi, hstart]⟩

/-- A rejection with a code other than INVALID_KEY_LENGTH, as R202 words it. -/
theorem reject_eq_failMessage {e : ErrCode} (h : e ≠ .invalidKeyLength) (s : State) :
    reject e s = failMessage e s := by
  have hphase : (if inMessage s.phase then .failed else s.phase) = (failMessage e s).phase := by
    unfold failMessage
    cases s.phase <;> rfl
  rw [reject_of_ne h, hphase]
  rfl

/-- An illegal word completes as a USAGE_ERROR rejection (R80). -/
theorem complete_of_decode_error {s : State} {e : DecodeError} (h : decode s.latch = .error e) :
    complete s = .next (finish (failMessage .usageError s)) := by
  rw [complete, h, ← reject_eq_failMessage (by decide)]

/-- Settles O3: the fields of a decoded word, read as numbers, rule out the illegal words. -/
theorem everyWordDecodesOrIsIllegal : Obligations.EveryWordDecodesOrIsIllegal := by
  intro w
  refine ⟨fun hill => ?_, fun hdir hop => ?_, fun hrsv h1 h10 hdir => ?_, ?_⟩
  · refine decode_error_of_ne_ok fun i hi => ?_
    obtain ⟨hrsv, hop, -, -⟩ := decode_eq_ok_iff.mp hi
    have hrange := opcodeOf_range i
    rw [← hop, opField_toNat] at hrange
    exact hill.elim (fun h => h (rsvField_eq_zero_iff.mp hrsv)) (fun h => h hrange)
  · refine decode_error_of_ne_ok fun i hi => ?_
    obtain ⟨-, hopc, -, hd⟩ := decode_eq_ok_iff.mp hi
    have hstart := opcodeOf_of_dirOf (hd.symm.trans (dirField_eq_true_iff.mpr hdir))
    rw [← opField_toNat, hopc, hstart] at hop
    exact hop rfl
  · obtain ⟨i, hi⟩ := exists_decode_of_legal hrsv h1 h10 hdir
    obtain ⟨-, hop, hlen, hd⟩ := decode_eq_ok_iff.mp hi
    exact ⟨i, hi, hop ▸ opField_toNat w, hlen ▸ lenField_eq w, hd ▸ dirField_toNat w⟩
  · rintro e s he rfl
    exact complete_of_decode_error he

/-! ### The encoding function (R77) -/

/-- The encoding is the word of R77's number, its fields added at their places. -/
theorem encode_eq_ofNat {i : Instr} (h : WellFormed i) :
    encode i = BitVec.ofNat 32 (0x10000 * (dirOf i).toNat + 0x100 * i.len + (opcodeOf i).toNat) := by
  obtain ⟨hop, hlen, hdir, hrsv⟩ := Laws.EncodeFields.of_len i h
  have nrsv := rsvField_eq_zero_iff.mp hrsv
  rw [← hop, ← hlen, ← hdir, opField_toNat, lenField_eq, dirField_toNat]
  apply BitVec.eq_of_toNat_eq
  rw [BitVec.toNat_ofNat]
  omega

/-- Settles O4: the number of a command, and from it the words of each LEN. -/
theorem encodingFunctionAndLegalWords : Obligations.EncodingFunctionAndLegalWords := by
  refine ⟨fun i hi => (commandNumber_eq hi).symm, by decide, fun l _ h16 => ?_, by decide, by decide,
    by decide, by decide, by decide, by decide, by decide⟩
  have hl : l < 256 := by omega
  have hword : ∀ i : Instr, i.len = l → dirOf i = false →
      encode i = BitVec.ofNat 32 (0x100 * l + (opcodeOf i).toNat) := by
    rintro i rfl hd
    simpa [hd] using encode_eq_ofNat hl
  exact ⟨hword (.nonce l) rfl rfl, hword (.aad l) rfl rfl, hword (.data l) rfl rfl,
    hword (.final l) rfl rfl, hword (.verify l) rfl rfl⟩

/-- Settles O5: each word is the encoding of its command. -/
theorem writtenOutWordsDecode : Obligations.WrittenOutWordsDecode := by
  have written : ∀ {w : Word} {i : Instr}, encode i = w → WellFormed i → decode w = .ok i := by
    rintro w i rfl hi
    exact decodeOfEncodeIsTheCommand i hi
  refine ⟨written ?_ ?_, written ?_ ?_, written ?_ ?_, written ?_ ?_, written ?_ ?_, written ?_ ?_⟩ <;>
    decide

end Sys2Proof.Machine
end

section
/-! The block cipher (40_cipher.md): the round transform spelled out, the words that the rounds keep in
k[i%4] and x[i%4] as one sequence (R105, R106), and encryption as a permutation. -/

namespace Sys2Proof.Machine

/-! ### The round transform (R102 to R104) -/

theorem rotl_eq_rotateLeft (x : Word) {n : Nat} (hn : n < 32) : rotl x n = x.rotateLeft n := by
  rw [rotl, BitVec.rotateLeft_def, Nat.mod_eq_of_lt hn]

/-- tau substitutes byte by byte (R102). -/
theorem tau_byte (t : Tables) (x : Word) (k : Fin 4) :
    (tau t x).extractLsb' (8 * k) 8 = t.sbox[(x.extractLsb' (8 * k) 8).toFin] := by
  have append_byte : ∀ a b c d : Byte, (a ++ b ++ c ++ d).extractLsb' (8 * k) 8 =
      match k with | 0 => d | 1 => c | 2 => b | 3 => a := by
    intro a b c d
    apply BitVec.eq_of_getLsbD_eq
    intro j hj
    fin_cases k <;> simp [hj] <;> grind
  rw [tau, append_byte]
  fin_cases k <;> rfl

theorem isRoundTransform_roundT (t : Tables) : IsRoundTransform t (roundT t) := by
  intro x
  refine ⟨tau t x, tau_byte t x, ?_⟩
  rw [roundT, linear, rotl_eq_rotateLeft _ (by decide), rotl_eq_rotateLeft _ (by decide),
    rotl_eq_rotateLeft _ (by decide), rotl_eq_rotateLeft _ (by decide)]

/-! ### One round -/

theorem mod_four_cases (i : Nat) : i % 4 = 0 ∨ i % 4 = 1 ∨ i % 4 = 2 ∨ i % 4 = 3 := by omega

/-- A write to one of the four words keeps the others. -/
theorem quadGet_quadSet_of_ne (q : Quad) {i j : Nat} (x : Word) (h : j % 4 ≠ i % 4) :
    quadGet (quadSet q i x) j = quadGet q j := by
  rcases mod_four_cases i with hi | hi | hi | hi <;> grind [quadGet, quadSet]

theorem quadGet_add_four (q : Quad) (i : Nat) : quadGet q (i + 4) = quadGet q i := by
  rw [quadGet, quadGet, Nat.add_mod_right]

/-- A word written twice holds the last value. -/
theorem quadSet_quadSet_last (q : Quad) (i : Nat) (x y : Word) :
    quadSet (quadSet q i x) i y = quadSet q i y := by
  rcases mod_four_cases i with h | h | h | h <;> simp [quadSet, h]

theorem quadSet_quadGet (q : Quad) (i : Nat) : quadSet q i (quadGet q i) = q := by
  rcases mod_four_cases i with h | h | h | h <;> simp [quadGet, quadSet, h]

/-- The four words after round i with constant or round key c, in the key schedule and in encryption (R105,
R106). -/
def roundStep (t : Tables) (i : Nat) (c : Word) (q : Quad) : Quad := quadSet q i (roundWord t q i c)

theorem scheduleRounds_cons (t : Tables) (i : Nat) (k : Quad) (c : Word) (cs : List Word) :
    scheduleRounds t i k (c :: cs) =
      roundWord t k i c :: scheduleRounds t (i + 1) (roundStep t i c k) cs := rfl

theorem encryptRounds_cons (t : Tables) (i : Nat) (x : Quad) (c : Word) (cs : List Word) :
    encryptRounds t i x (c :: cs) = encryptRounds t (i + 1) (roundStep t i c x) cs := rfl

/-- A round is its own inverse: the mask it XORs into word i is made from the other three words. -/
theorem roundStep_involutive (t : Tables) (i : Nat) (c : Word) :
    Function.Involutive (roundStep t i c) := by
  intro q
  have hword : roundWord t (roundStep t i c q) i c = quadGet q i := by
    rw [roundWord, roundStep, quadGet_quadSet, quadGet_quadSet_of_ne _ _ (by omega),
      quadGet_quadSet_of_ne _ _ (by omega), quadGet_quadSet_of_ne _ _ (by omega), roundWord,
      BitVec.xor_assoc, BitVec.xor_self, BitVec.xor_zero]
  calc roundStep t i c (roundStep t i c q)
      = quadSet (roundStep t i c q) i (quadGet q i) := by rw [roundStep, hword]
    _ = quadSet q i (quadGet q i) := quadSet_quadSet_last ..
    _ = q := quadSet_quadGet q i

/-! ### The words as one sequence (R105, R106) -/

/-- The word after X[i..i+3] in the recurrence with constant or round key c. -/
def nextWord (t : Tables) (X : Nat → Word) (i : Nat) (c : Word) : Word :=
  X i ^^^ roundT t (X (i + 1) ^^^ X (i + 2) ^^^ X (i + 3) ^^^ c)

/-- The sequence of words that begins with the four of q, with constant or round key c i in round i. -/
def wordSequence (t : Tables) (q : Quad) (c : Nat → Word) : Nat → Word
  | 0 => q.w0
  | 1 => q.w1
  | 2 => q.w2
  | 3 => q.w3
  | i + 4 =>
    wordSequence t q c i ^^^ roundT t (wordSequence t q c (i + 1) ^^^ wordSequence t q c (i + 2) ^^^
      wordSequence t q c (i + 3) ^^^ c i)

theorem wordSequence_add_four (t : Tables) (q : Quad) (c : Nat → Word) (i : Nat) :
    wordSequence t q c (i + 4) = nextWord t (wordSequence t q c) i (c i) := by
  rw [wordSequence, nextWord]

/-- X goes on from X[i..i+3] by the recurrence with the words cs, one for each round from round i on. -/
def FollowsRounds (t : Tables) (X : Nat → Word) (i : Nat) (cs : List Word) : Prop :=
  ∀ (j : Nat) (hj : j < cs.length), X (i + j + 4) = nextWord t X (i + j) cs[j]

theorem followsRounds_cons {t : Tables} {X : Nat → Word} {i : Nat} {c : Word} {cs : List Word}
    (h : FollowsRounds t X i (c :: cs)) :
    X (i + 4) = nextWord t X i c ∧ FollowsRounds t X (i + 1) cs := by
  refine ⟨h 0 (Nat.zero_lt_succ _), fun j hj => ?_⟩
  rw [Nat.add_right_comm i 1 j]
  exact h (j + 1) (Nat.succ_lt_succ hj)

theorem followsRounds_wordSequence (t : Tables) (q : Quad) (cs : List Word) :
    FollowsRounds t (wordSequence t q (cs.getD · 0)) 0 cs := by
  intro j hj
  rw [Nat.zero_add, wordSequence_add_four, List.getD_eq_getElem _ _ hj]

/-- Before round i the four words k[i%4] hold X[i..i+3]. -/
def HoldsWords (q : Quad) (X : Nat → Word) (i : Nat) : Prop :=
  ∀ j, i ≤ j → j < i + 4 → quadGet q j = X j

theorem holdsWords_wordSequence (t : Tables) (q : Quad) (c : Nat → Word) :
    HoldsWords q (wordSequence t q c) 0 := by
  intro j _ hj
  interval_cases j <;> rfl

theorem roundWord_of_holdsWords {q : Quad} {X : Nat → Word} {i : Nat} (h : HoldsWords q X i)
    (t : Tables) (c : Word) : roundWord t q i c = nextWord t X i c := by
  rw [roundWord, nextWord, h i (by omega) (by omega), h (i + 1) (by omega) (by omega),
    h (i + 2) (by omega) (by omega), h (i + 3) (by omega) (by omega)]

/-- Round i replaces X[i], which no later round reads, by X[i+4]. -/
theorem holdsWords_roundStep {q : Quad} {X : Nat → Word} {i : Nat} {t : Tables} {c : Word}
    (h : HoldsWords q X i) (hnext : X (i + 4) = nextWord t X i c) :
    HoldsWords (roundStep t i c q) X (i + 1) := by
  intro j hij hj
  rcases Nat.lt_or_ge j (i + 4) with hold | hnew
  · rw [roundStep, quadGet_quadSet_of_ne _ _ (by omega), h j (by omega) hold]
  · obtain rfl : j = i + 4 := by omega
    rw [quadGet_add_four, roundStep, quadGet_quadSet, roundWord_of_holdsWords h, hnext]

theorem scheduleRounds_getElem {t : Tables} {X : Nat → Word} {i : Nat} {k : Quad} {cs : List Word}
    (hk : HoldsWords k X i) (hX : FollowsRounds t X i cs) {j : Nat}
    (hj : j < (scheduleRounds t i k cs).length) : (scheduleRounds t i k cs)[j] = X (i + j + 4) := by
  induction cs generalizing i k j with
  | nil => exact absurd hj (Nat.not_lt_zero j)
  | cons c cs ih =>
    obtain ⟨hnext, hrest⟩ := followsRounds_cons hX
    simp only [scheduleRounds_cons]
    cases j with
    | zero => exact (roundWord_of_holdsWords hk t c).trans hnext.symm
    | succ j =>
      rw [List.getElem_cons_succ, ih (holdsWords_roundStep hk hnext) hrest, Nat.add_right_comm i 1 j]
      rfl

theorem holdsWords_encryptRounds {t : Tables} {X : Nat → Word} {i : Nat} {x : Quad} {rks : List Word}
    (hx : HoldsWords x X i) (hX : FollowsRounds t X i rks) :
    HoldsWords (encryptRounds t i x rks) X (i + rks.length) := by
  induction rks generalizing i x with
  | nil => exact hx
  | cons rk rks ih =>
    obtain ⟨hnext, hrest⟩ := followsRounds_cons hX
    rw [encryptRounds_cons, List.length_cons, Nat.add_comm rks.length, ← Nat.add_assoc]
    exact ih (holdsWords_roundStep hx hnext) hrest

/-- The recurrence with the 32 words of a vector, as the statements write it. -/
theorem nextWord_of_followsRounds {t : Tables} {X : Nat → Word} {cs : Vector Word 32}
    (h : FollowsRounds t X 0 cs.toList) (i : Fin 32) :
    X (i + 4) = X i ^^^ roundT t (X (i + 1) ^^^ X (i + 2) ^^^ X (i + 3) ^^^ cs[i]) := by
  simpa [nextWord] using h i (by simp)

/-- Settles O20: before round i the words k[i%4] hold K[i..i+3], so round i makes K[i+4]. -/
theorem keyScheduleIsTheWordRecurrence : Obligations.KeyScheduleIsTheWordRecurrence := by
  intro t key
  have hX := followsRounds_wordSequence t (quadXor (blockQuad key) t.fk) t.ck.toList
  refine ⟨isRoundTransform_roundT t, _, rfl, rfl, rfl, rfl, fun i =>
    ⟨nextWord_of_followsRounds hX i, ?_⟩⟩
  have hword := scheduleRounds_getElem (holdsWords_wordSequence _ _ _) hX (j := i)
    (by simp [scheduleRounds_length])
  rw [Nat.zero_add] at hword
  exact hword

/-- Settles O21: after round 31 the words x[i%4] hold X[32..35]. -/
theorem encryptIsTheWordRecurrence : Obligations.EncryptIsTheWordRecurrence := by
  intro t rk b
  have hX := followsRounds_wordSequence t (blockQuad b) rk.toList
  refine ⟨isRoundTransform_roundT t, _, rfl, rfl, rfl, rfl, nextWord_of_followsRounds hX, ?_⟩
  have hlast := holdsWords_encryptRounds (holdsWords_wordSequence _ _ _) hX
  rw [Vector.length_toList, Nat.zero_add] at hlast
  rw [← hlast 35 (by decide) (by decide), ← hlast 34 (by decide) (by decide),
    ← hlast 33 (by decide) (by decide), ← hlast 32 (by decide) (by decide)]
  rfl

/-! ### Encryption as a permutation (R106) -/

theorem encryptRounds_bijective (t : Tables) (i : Nat) (rks : List Word) :
    Function.Bijective (encryptRounds t i · rks) := by
  induction rks generalizing i with
  | nil => exact Function.bijective_id
  | cons rk rks ih => exact (ih (i + 1)).comp (roundStep_involutive t i rk).bijective

theorem blockQuad_bijective : Function.Bijective blockQuad :=
  Function.bijective_iff_has_inverse.mpr ⟨quadBlock, quadBlock_blockQuad, blockQuad_quadBlock⟩

theorem quadBlock_bijective : Function.Bijective quadBlock :=
  Function.bijective_iff_has_inverse.mpr ⟨blockQuad, blockQuad_quadBlock, quadBlock_blockQuad⟩

/-- The four words in reverse order. -/
def reverseQuad (q : Quad) : Quad := ⟨q.w3, q.w2, q.w1, q.w0⟩

theorem reverseQuad_involutive : Function.Involutive reverseQuad := fun _ => rfl

theorem reversedBlock_eq : reversedBlock = quadBlock ∘ reverseQuad := rfl

theorem reversedBlock_bijective : Function.Bijective reversedBlock := by
  rw [reversedBlock_eq]
  exact quadBlock_bijective.comp reverseQuad_involutive.bijective

/-- Settles O22: unpacking, each round and the reversed packing are permutations. -/
theorem encryptIsAPermutationOfBlocks : Obligations.EncryptIsAPermutationOfBlocks := by
  intro t rk
  exact reversedBlock_bijective.comp
    ((encryptRounds_bijective t 0 rk.toList).comp blockQuad_bijective)

end Sys2Proof.Machine
end

section
/-! The commands of the block cipher, KEYSET and ECB (40_cipher.md R108, R109): their results and their
rejections. -/

namespace Sys2Proof.Machine

/-! ### USAGE_ERROR (R80, R201, R202) -/

/-- A word of a command other than START with RSV or DIR set is illegal, and completes as a USAGE_ERROR
rejection (R75, R80). -/
theorem complete_of_rsv_or_dir {s : State} (hop : s.latch.toNat % 256 ≠ 3)
    (h : 65536 ≤ s.latch.toNat) :
    complete s = .next { failMessage .usageError s with busy := false } := by
  obtain ⟨hrsv, hdir, -⟩ := everyWordDecodesOrIsIllegal s.latch
  have hillegal : ∃ e, decode s.latch = .error e := by
    by_cases hr : s.latch.toNat / 131072 = 0
    · exact hdir (by omega) hop
    · exact hrsv (.inl hr)
  obtain ⟨e, he⟩ := hillegal
  exact complete_of_decode_error he

/-- A command other than KEYSET that is not past its limit fails its checks with USAGE_ERROR alone. -/
theorem exec_of_usageError {i : Instr} {s : State} (hc : check i s ≠ none)
    (hk : ∀ n, i ≠ .keyset n) (ho : overLimit i s = false) :
    exec i s = .next (failMessage .usageError s) := by
  obtain ⟨e, he⟩ := Option.ne_none_iff_exists'.mp hc
  have hcode : e = .usageError := by
    rcases check_eq_some.mp he with hl | ⟨-, -, hu⟩ | ⟨-, -, hover, -⟩
    · rcases lenError_eq_some hl with ⟨-, n, -, hi⟩ | ⟨hu, -⟩
      · exact absurd hi (hk n)
      · exact hu
    · exact hu
    · rw [ho] at hover
      cases hover
  rw [exec_of_some he, hcode, reject_eq_failMessage (by decide)]

/-! ### KEYSET (R108) -/

theorem check_keyset_of_ne {n : Nat} (h : n ≠ 16) (s : State) :
    check (.keyset n) s = some .invalidKeyLength :=
  check_eq_some.mpr (.inl (by simp [lenError, h]))

/-- Settles O28: the LEN alone decides between the effect and the discarded context. -/
theorem keysetCommand : Obligations.KeysetCommand := by
  intro s n
  obtain ⟨-, hword, -⟩ := encodingFunctionAndLegalWords
  refine ⟨hword, ?_, fun hn => ?_, fun hop => complete_of_rsv_or_dir (by omega)⟩
  · rw [exec_of_none (check_keyset_eq_none.mpr rfl)]
    rfl
  · rw [exec_of_some (check_keyset_of_ne hn s), reject_invalidKeyLength]
    rfl

/-! ### ECB (R109) -/

/-- Settles O35: ECB has no limit, so what it is not accepted for is a USAGE_ERROR. -/
theorem ecbCommand : Obligations.EcbCommand := by
  intro s n
  obtain ⟨-, -, -, -, -, -, -, hword, -⟩ := encodingFunctionAndLegalWords
  refine ⟨hword, fun hp => ?_, fun hbad => ?_, fun hop => complete_of_rsv_or_dir (by omega)⟩
  · rw [exec_of_none (check_ecb_eq_none.mpr ⟨rfl, hp⟩)]
    rfl
  · have hc : check (.ecb n) s ≠ none := fun h => by
      obtain ⟨hn, hp⟩ := check_ecb_eq_none.mp h
      exact hbad.elim (· hn) hp
    exact exec_of_usageError hc (fun _ => Instr.noConfusion) rfl

end Sys2Proof.Machine
end

section
/-! GaloisHash (41_ghash.md): the field multiplication of R121 and its laws (R122), and the commands AAD and
GMUL (R126, R127). -/

namespace Sys2Proof.Machine

/-! ### The shift of V (R121) -/

/-- The shift reduces by adding 0xE1 in byte 0 where bit 0 is set. -/
theorem shiftReduce_eq_xor (v : Block) :
    shiftReduce v = v >>> 1 ^^^ (if v.getLsbD 0 then 0xE1#128 <<< 120 else 0) := by
  rw [shiftReduce]
  split
  · rfl
  · exact BitVec.xor_zero.symm

/-- Reductions add up: two of them cancel. -/
theorem ite_xor_zero (a b : Bool) (c : Block) :
    (if a ^^ b then c else 0) = (if a then c else 0) ^^^ (if b then c else 0) := by
  cases a <;> cases b <;> simp

theorem shiftReduce_xor (a b : Block) :
    shiftReduce (a ^^^ b) = shiftReduce a ^^^ shiftReduce b := by
  simp only [shiftReduce_eq_xor, BitVec.getLsbD_xor, BitVec.ushiftRight_xor_distrib, ite_xor_zero]
  ac_rfl

/-- A single bit above the lowest moves down one place, and nothing is reduced. -/
theorem shiftReduce_twoPow {n : Nat} (hn : n + 1 < 128) :
    shiftReduce (BitVec.twoPow 128 (n + 1)) = BitVec.twoPow 128 n := by
  rw [shiftReduce, if_neg (by simp)]
  apply BitVec.eq_of_getLsbD_eq
  intro j hj
  simp only [BitVec.getLsbD_ushiftRight, BitVec.getLsbD_twoPow]
  grind

/-! ### The multiply loop (R121) -/

theorem multiplyLoop_succ (x : Block) (n : Nat) (v z : Block) :
    multiplyLoop x (n + 1) v z =
      multiplyLoop x n (shiftReduce v) (if x.getLsbD n then z ^^^ v else z) := rfl

/-- The loop is additive in V and Z together. -/
theorem multiplyLoop_xor (x : Block) (n : Nat) (v v' z z' : Block) :
    multiplyLoop x n (v ^^^ v') (z ^^^ z') = multiplyLoop x n v z ^^^ multiplyLoop x n v' z' := by
  induction n generalizing v v' z z' with
  | zero => rfl
  | succ n ih =>
    have hz : (if x.getLsbD n then z ^^^ z' ^^^ (v ^^^ v') else z ^^^ z') =
        (if x.getLsbD n then z ^^^ v else z) ^^^ (if x.getLsbD n then z' ^^^ v' else z') := by
      split
      · ac_rfl
      · rfl
    rw [multiplyLoop_succ, hz, shiftReduce_xor, ih]
    rfl

/-- The loop only shifts and adds, so it commutes with every additive map that commutes with the shift. -/
theorem multiplyLoop_map {f : Block → Block} (hadd : ∀ a b, f (a ^^^ b) = f a ^^^ f b)
    (hshift : ∀ v, f (shiftReduce v) = shiftReduce (f v)) (x : Block) (n : Nat) (v z : Block) :
    multiplyLoop x n (f v) (f z) = f (multiplyLoop x n v z) := by
  induction n generalizing v z with
  | zero => rfl
  | succ n ih =>
    rw [multiplyLoop_succ, multiplyLoop_succ, ← hshift, ← hadd, ← apply_ite f, ih]

/-- The low n + 1 bits of a block are bit n and the low n bits. -/
theorem setWidth_succ_eq_xor_twoPow (x : Block) (n : Nat) :
    (x.setWidth (n + 1)).setWidth 128 =
      (if x.getLsbD n then BitVec.twoPow 128 n else 0) ^^^ (x.setWidth n).setWidth 128 := by
  apply BitVec.eq_of_getLsbD_eq
  intro j hj
  rw [BitVec.getLsbD_xor, apply_ite (BitVec.getLsbD · j)]
  simp only [BitVec.getLsbD_setWidth, BitVec.getLsbD_twoPow]
  grind

/-- With the bit of X that is read next in V, the loop adds the bits of X still to be read to Z. -/
theorem multiplyLoop_twoPow (x : Block) {n : Nat} (hn : n < 128) (z : Block) :
    multiplyLoop x (n + 1) (BitVec.twoPow 128 n) z =
      z ^^^ (x.setWidth (n + 1)).setWidth 128 := by
  induction n generalizing z with
  | zero =>
    rw [setWidth_succ_eq_xor_twoPow, BitVec.of_length_zero (x := x.setWidth 0), multiplyLoop_succ]
    cases x.getLsbD 0 <;> simp [multiplyLoop]
  | succ n ih =>
    rw [multiplyLoop_succ, shiftReduce_twoPow hn, ih (Nat.lt_of_succ_lt hn),
      setWidth_succ_eq_xor_twoPow x (n + 1)]
    cases x.getLsbD (n + 1) <;> simp [BitVec.xor_assoc]

/-! ### The laws of multiplication (R122) -/

theorem multiply_xor (x y z : Block) : multiply x (y ^^^ z) = multiply x y ^^^ multiply x z :=
  multiplyLoop_xor x 128 y z 0 0

theorem multiply_zero (x : Block) : multiply x 0 = 0 := by
  have h := multiply_xor x 0 0
  rwa [BitVec.xor_self, BitVec.xor_self] at h

/-- The block with only the most significant bit is an identity on the right. -/
theorem multiply_one (x : Block) : multiply x (BitVec.twoPow 128 127) = x := by
  rw [multiply, multiplyLoop_twoPow x (by decide)]
  simp

theorem multiply_shiftReduce (x y : Block) :
    multiply x (shiftReduce y) = shiftReduce (multiply x y) :=
  multiplyLoop_map shiftReduce_xor (fun _ => rfl) x 128 y 0

/-- Multiplications by two blocks commute: each is additive and commutes with the shift that the other is
made of. -/
theorem multiply_left_comm (x y z : Block) :
    multiply x (multiply y z) = multiply y (multiply x z) := by
  have h := multiplyLoop_map (multiply_xor y) (multiply_shiftReduce y) x 128 z 0
  rwa [multiply_zero] at h

theorem multiply_comm (x y : Block) : multiply x y = multiply y x :=
  calc multiply x y = multiply x (multiply y (BitVec.twoPow 128 127)) := by rw [multiply_one]
    _ = multiply y (multiply x (BitVec.twoPow 128 127)) := multiply_left_comm ..
    _ = multiply y x := by rw [multiply_one]

/-- Settles O24: both products are the identity multiplied by both blocks. -/
theorem multiplyIsCommutative : Obligations.MultiplyIsCommutative := multiply_comm

/-- Settles O25, from commutativity and the exchange of the two outer factors. -/
theorem multiplyIsAssociative : Obligations.MultiplyIsAssociative := by
  intro x y z
  calc multiply (multiply x y) z = multiply z (multiply x y) := multiply_comm ..
    _ = multiply x (multiply z y) := multiply_left_comm ..
    _ = multiply x (multiply y z) := by rw [multiply_comm z y]

/-- Settles O23: the laws of the right operand, and by commutativity those of the left. -/
theorem multiplyIsBilinearWithIdentity : Obligations.MultiplyIsBilinearWithIdentity := by
  intro x y z
  refine ⟨?_, multiply_zero y, ?_, multiply_one y, ?_, multiply_xor x y z⟩
  · rw [multiply_comm, multiply_zero]
  · rw [multiply_comm, multiply_one]
  · rw [multiply_comm, multiply_xor, multiply_comm z x, multiply_comm z y]

/-! ### Rejection by LEN or phase, and past the limit (R201, R202) -/

/-- A command other than KEYSET with an illegal LEN, or not permitted in the state, is a USAGE_ERROR,
whatever its limit. -/
theorem exec_of_not_permitted {i : Instr} {s : State} (hk : ∀ n, i ≠ .keyset n)
    (h : lenError i ≠ none ∨ permitted i s = false) :
    exec i s = .next (failMessage .usageError s) := by
  have hc : check i s = some .usageError := by
    rw [check_eq_some]
    cases hl : lenError i with
    | none => exact .inr (.inl ⟨rfl, h.resolve_left (absurd hl), rfl⟩)
    | some e =>
      rcases lenError_eq_some hl with ⟨-, n, -, hi⟩ | ⟨rfl, -⟩
      · exact absurd hi (hk n)
      · exact .inl rfl
  rw [exec_of_some hc, reject_eq_failMessage (by decide)]

/-- A permitted command past its limit is LIMIT_EXCEEDED. -/
theorem exec_of_overLimit {i : Instr} {s : State} (hl : lenError i = none)
    (hp : permitted i s = true) (ho : overLimit i s = true) :
    exec i s = .next (failMessage .limitExceeded s) := by
  rw [exec_of_some (check_eq_some.mpr (.inr (.inr ⟨hl, hp, ho, rfl⟩))),
    reject_eq_failMessage (by decide)]

/-! ### AAD (R126) -/

theorem lenError_aad_eq_none {n : Nat} : lenError (.aad n) = none ↔ 1 ≤ n ∧ n ≤ 16 := by
  simp [lenError]

/-- A counter after n more bytes, as a number cut to 64 bits (R35). -/
theorem countBytes_eq_ofNat (c : Counter) (n : Nat) :
    countBytes c n = BitVec.ofNat 64 (c.toNat + n) := by
  rw [countBytes, BitVec.ofNat_add, BitVec.ofNat_toNat, BitVec.setWidth_eq]

/-- The state an AAD with ACL = 0 leaves, as R126 words it. -/
theorem aadEffect_of_open {s : State} (h : s.acl = false) (n : Nat) :
    aadEffect n s = { s with
      acc := fold s.h s.acc (firstBytes n (quadBlock s.din))
      abytes := BitVec.ofNat 64 (s.abytes.toNat + n)
      acl := decide (n < 16) } := by
  rw [aadEffect, countBytes_eq_ofNat, closedAfter, h, Bool.false_or]
  rfl

/-- Settles O31: the checks of R201 in their order, then R126's effect. -/
theorem aadCommand : Obligations.AadCommand := by
  intro s n
  refine ⟨fun h1 h16 => ?_, fun h1 h16 hp hacl hle => ?_, fun h1 h16 hp hacl hlt => ?_,
    fun hbad => ?_, fun hop => complete_of_rsv_or_dir (by omega)⟩
  · obtain ⟨-, -, hwords, -⟩ := encodingFunctionAndLegalWords
    obtain ⟨-, hword, -⟩ := hwords n h1 h16
    exact hword
  · rw [exec_of_none (check_aad_eq_none.mpr ⟨⟨h1, h16⟩, ⟨hp, hacl⟩, hle⟩)]
    exact congrArg Host.Outcome.next (aadEffect_of_open (s := { s with err := .none }) hacl n)
  · rw [exec_of_overLimit (lenError_aad_eq_none.mpr ⟨h1, h16⟩)
      ((permitted_aad n s).mpr ⟨hp, hacl⟩) ((overLimit_aad n s).mpr hlt), failMessage, hp]
  · refine exec_of_not_permitted (fun _ => Instr.noConfusion) (hbad.imp ?_ fun hstate => ?_)
    · exact lenError_aad_eq_none.not.mpr
    · rw [← Bool.not_eq_true, permitted_aad]
      rintro ⟨hp, hacl⟩
      exact hstate.elim (· hp) (by simp [hacl])

/-! ### GMUL (R127) -/

/-- Settles O36: the LEN alone decides, in every phase. -/
theorem gmulCommand : Obligations.GmulCommand := by
  intro s n
  obtain ⟨-, -, -, -, -, -, -, -, hword, -⟩ := encodingFunctionAndLegalWords
  refine ⟨hword, ?_, fun hn => ?_, fun hop => complete_of_rsv_or_dir (by omega)⟩
  · rw [exec_of_none (check_gmul_eq_none.mpr rfl)]
    rfl
  · exact exec_of_usageError (check_gmul_eq_none.not.mpr hn) (fun _ => Instr.noConfusion) rfl

end Sys2Proof.Machine
end

section
/-! CounterSequencer (42_ctr.md): the counter block (R144, R145, R148) and the commands NONCE, START and DATA
(R142, R143, R146): their results and their rejections. -/

namespace Sys2Proof.Machine

/-! ### The counter block (R144, R148) -/

/-- The last word of a block is its number modulo 2^32. -/
theorem load32_three_toNat (b : Block) : (load32 b 3).toNat = b.toNat % 2 ^ 32 := by
  simp [load32]

/-- The counter block as a number: the upper 96 bits of J0, and the last 32 bits counted on. -/
theorem ctr_toNat (j0 : Block) (n : Nat) :
    (ctr j0 n).toNat = j0.toNat / 2 ^ 32 * 2 ^ 32 + (j0.toNat % 2 ^ 32 + n) % 2 ^ 32 := by
  have hupper : (j0.extractLsb' 32 96).toNat = j0.toNat / 2 ^ 32 := by
    have hj := j0.isLt
    rw [BitVec.extractLsb'_toNat, Nat.shiftRight_eq_div_pow]
    omega
  rw [ctr, BitVec.toNat_append, ← Nat.shiftLeft_add_eq_or_of_lt (BitVec.isLt _), hupper,
    Nat.shiftLeft_eq, BitVec.toNat_add, load32_three_toNat, BitVec.toNat_ofNat, Nat.add_mod_mod]

/-- Settles O26: the two parts of the counter block's number. -/
theorem counterBlockWraps : Obligations.CounterBlockWraps := by
  intro j0 n
  have h := ctr_toNat j0 n
  omega

theorem ctr_zero (j0 : Block) : ctr j0 0 = j0 := by
  apply BitVec.eq_of_toNat_eq
  rw [ctr_toNat, Nat.add_zero, Nat.mod_mod, Nat.div_add_mod']

/-- Equal counter blocks have indices that differ by a multiple of 2^32. -/
theorem mod_eq_of_ctr_eq {j0 : Block} {n m : Nat} (h : ctr j0 n = ctr j0 m) :
    n % 2 ^ 32 = m % 2 ^ 32 := by
  obtain ⟨-, hn⟩ := counterBlockWraps j0 n
  obtain ⟨-, hm⟩ := counterBlockWraps j0 m
  rw [h] at hn
  omega

/-- Settles O27: the data limit bounds the index, and below 2^32 the index decides the counter block; J0 is
that of index 0. -/
theorem dataCounterBlocksAreDistinct : Obligations.DataCounterBlocksAreDistinct := by
  refine ⟨fun s len hc => ?_, fun j0 n m hn1 hn hm1 hm => ⟨fun h => ?_, fun hne h => ?_⟩⟩
  · obtain ⟨⟨h1, -⟩, -, hle⟩ := check_data_eq_none.mp hc
    rw [blockIndex]
    omega
  · have h0 := mod_eq_of_ctr_eq (h.trans (ctr_zero j0).symm)
    omega
  · have hmod := mod_eq_of_ctr_eq h
    omega

/-! ### NONCE (R142) -/

theorem lenError_nonce_eq_none {n : Nat} : lenError (.nonce n) = none ↔ 1 ≤ n ∧ n ≤ 16 := by
  simp [lenError]

theorem permitted_nonce_eq_false {n : Nat} {s : State} :
    permitted (.nonce n) s = false ↔ s.phase ≠ .nonce ∨ s.ncl = true := by
  rw [← Bool.not_eq_true, permitted_nonce, not_and_or, Bool.not_eq_false]

/-- The state a NONCE with NCL = 0 leaves, as R142 words it. -/
theorem nonceEffect_of_open {s : State} (h : s.ncl = false) (n : Nat) :
    nonceEffect n s = { s with
      nraw := if s.nbytes = 0 then (firstBytes n (quadBlock s.din)).extractLsb' 32 96 else s.nraw
      acc := fold s.h s.acc (firstBytes n (quadBlock s.din))
      nbytes := BitVec.ofNat 64 (s.nbytes.toNat + n)
      ncl := decide (n < 16) } := by
  rw [nonceEffect, countBytes_eq_ofNat, closedAfter, h, Bool.false_or]
  rfl

/-- Settles O29: the checks of R201 in their order, then R142's effect. -/
theorem nonceCommand : Obligations.NonceCommand := by
  intro s n
  refine ⟨fun h1 h16 => ?_, fun h1 h16 hp hncl hle => ?_, fun h1 h16 hp hncl hlt => ?_,
    fun hbad => ?_, fun hop => complete_of_rsv_or_dir (by omega)⟩
  · obtain ⟨-, -, hwords, -⟩ := encodingFunctionAndLegalWords
    obtain ⟨hword, -⟩ := hwords n h1 h16
    exact hword
  · rw [exec_of_none (check_nonce_eq_none.mpr ⟨⟨h1, h16⟩, ⟨hp, hncl⟩, hle⟩)]
    exact congrArg Host.Outcome.next (nonceEffect_of_open (s := { s with err := .none }) hncl n)
  · rw [exec_of_overLimit (lenError_nonce_eq_none.mpr ⟨h1, h16⟩)
      ((permitted_nonce n s).mpr ⟨hp, hncl⟩) ((overLimit_nonce n s).mpr hlt), failMessage, hp]
  · exact exec_of_not_permitted (fun _ => Instr.noConfusion)
      (hbad.imp lenError_nonce_eq_none.not.mpr permitted_nonce_eq_false.mpr)

/-! ### START (R143) -/

theorem permitted_start_eq_false {n : Nat} {d : Direction} {s : State} :
    permitted (.start n d) s = false ↔ s.phase ≠ .nonce ∨ s.nbytes.toNat = 0 := by
  rw [← Bool.not_eq_true, permitted_start, not_and_or, not_le, Nat.lt_one_iff]

/-- The direct path: a nonce of 12 bytes is J0 but for its last word. -/
theorem startJ0_direct {s : State} (h : s.nbytes.toNat = 12) : startJ0 s = directJ0 s.nraw := by
  rw [startJ0, if_pos (BitVec.eq_of_toNat_eq h)]

/-- The GHASH path: any other nonce's accumulator takes the length block. -/
theorem startJ0_hashed {s : State} (h : s.nbytes.toNat ≠ 12) :
    startJ0 s = fold s.h s.acc (nonceLengthBlock s.nbytes.toNat) := by
  rw [startJ0, if_neg fun heq => h (congrArg BitVec.toNat heq)]

/-- The state an accepted START leaves, as R143 words it. -/
theorem exec_start_of_accepted {s : State} (hp : s.phase = .nonce) (hn : 1 ≤ s.nbytes.toNat)
    (d : Direction) : exec (.start 0 d) s =
      .next { s with j0 := startJ0 s, acc := 0, dir := d, phase := .aad, err := .none } := by
  rw [exec_of_none (check_start_eq_none.mpr ⟨rfl, hp, hn⟩)]
  rfl

/-- Settles O30: the LEN, the phase and NBYTES decide, and then NBYTES decides between the two paths. -/
theorem startCommand : Obligations.StartCommand := by
  intro s n d
  obtain ⟨-, -, -, -, -, hencrypt, hdecrypt, -⟩ := encodingFunctionAndLegalWords
  refine ⟨hencrypt, hdecrypt, fun hp h12 => ?_, fun hp hn h12 => ?_, fun hbad => ?_,
    fun _ hrsv => ?_⟩
  · rw [exec_start_of_accepted hp (by omega), startJ0_direct h12, directJ0]
  · rw [exec_start_of_accepted hp hn, startJ0_hashed h12, nonceLengthBlock, be64Pair]
  · exact exec_of_not_permitted (fun _ => Instr.noConfusion)
      (hbad.imp (by simp [lenError]) permitted_start_eq_false.mpr)
  · obtain ⟨hill, -⟩ := everyWordDecodesOrIsIllegal s.latch
    obtain ⟨e, he⟩ := hill (.inl (by omega))
    exact complete_of_decode_error he

/-! ### DATA (R146) -/

theorem lenError_data_eq_none {n : Nat} : lenError (.data n) = none ↔ 1 ≤ n ∧ n ≤ 16 := by
  simp [lenError]

theorem permitted_data_eq_false {n : Nat} {s : State} :
    permitted (.data n) s = false ↔ (s.phase ≠ .aad ∧ s.phase ≠ .data) ∨ s.dcl = true := by
  rw [← Bool.not_eq_true, permitted_data, not_and_or, not_or, Bool.not_eq_false]

/-- The output is the masked input XORed with the masked keystream. -/
theorem dataOut_eq_xor (n : Nat) (s : State) :
    dataOut n s = firstBytes n (quadBlock s.din) ^^^ firstBytes n (keystream s) :=
  firstBytes_xor n (dinBlock s) (keystream s)

/-- The folded block is the output exactly when the engine encrypts. -/
theorem dataCiphertext_eq_ite (n : Nat) (s : State) :
    dataCiphertext n s =
      if s.dir = .encrypt then dataOut n s else firstBytes n (quadBlock s.din) := by
  rw [dataCiphertext]
  cases s.dir <;> rfl

/-- The state a DATA with DCL = 0 leaves, as R146 words it. -/
theorem dataEffect_of_open {s : State} (h : s.dcl = false) (n : Nat) :
    dataEffect n s = { s with
      acc := fold s.h s.acc
        (if s.dir = .encrypt then dataOut n s else firstBytes n (quadBlock s.din))
      dout := blockQuad (dataOut n s)
      dbytes := BitVec.ofNat 64 (s.dbytes.toNat + n)
      dcl := decide (n < 16), phase := .data } := by
  rw [dataEffect, dataCiphertext_eq_ite, countBytes_eq_ofNat, closedAfter, h, Bool.false_or]

/-- Settles O32: the checks of R201 in their order, then R146's effect. -/
theorem dataCommand : Obligations.DataCommand := by
  intro s n
  refine ⟨fun h1 h16 => ?_, fun out hout h1 h16 hp hdcl hle => ?_,
    fun h1 h16 hp hdcl hlt => ?_, fun hbad => ?_, fun hop => complete_of_rsv_or_dir (by omega)⟩
  · obtain ⟨-, -, hwords, -⟩ := encodingFunctionAndLegalWords
    obtain ⟨-, -, hword, -⟩ := hwords n h1 h16
    exact hword
  · obtain rfl : out = dataOut n s := hout.trans (dataOut_eq_xor n s).symm
    rw [exec_of_none (check_data_eq_none.mpr ⟨⟨h1, h16⟩, ⟨hp, hdcl⟩, hle⟩)]
    exact congrArg Host.Outcome.next (dataEffect_of_open (s := { s with err := .none }) hdcl n)
  · rw [exec_of_overLimit (lenError_data_eq_none.mpr ⟨h1, h16⟩)
      ((permitted_data n s).mpr ⟨hp, hdcl⟩) ((overLimit_data n s).mpr hlt), failMessage]
    rcases hp with hp | hp <;> rw [hp]
  · exact exec_of_not_permitted (fun _ => Instr.noConfusion)
      (hbad.imp lenError_data_eq_none.not.mpr permitted_data_eq_false.mpr)

/-- Settles O53: DOUT holds the masked XOR, read byte by byte. -/
theorem outputBytesBeyondLenAreZero : Obligations.OutputBytesBeyondLenAreZero := by
  intro s t n hc h
  obtain ⟨⟨-, h16⟩, -⟩ := check_data_eq_none.mp hc
  have hout : quadBlock t.dout = firstBytes n (quadBlock s.din ^^^ keystream s) := by
    rw [exec_of_none hc] at h
    cases h
    exact quadBlock_blockQuad _
  refine ⟨fun k hk => ?_, fun k hnk hk => ?_⟩
  · rw [hout, byteAt_firstBytes n _ k (hk.trans_le h16), if_pos hk, byteAt_xor]
  · rw [hout, byteAt_firstBytes n _ k hk, if_neg (Nat.not_lt.mpr hnk)]

end Sys2Proof.Machine
end

section
/-! The host's NONCE sequence (R79, R171): a command that the host issues is decoded and completed at once,
the chunks of a nonce are folded one by one (R140, R142), and START finishes J0 (R143). -/

namespace Sys2Proof.Machine

/-! ### A zero-padded byte string as a block (R11) -/

/-- Blocks are equal where their 16 bytes are. -/
theorem eq_of_byteAt {a b : Block} (h : ∀ k < 16, byteAt a k = byteAt b k) : a = b := by
  rw [← firstBytes_sixteen a, ← firstBytes_sixteen b, firstBytes_congr (Nat.le_refl 16) h]

theorem byteAt_or (a b : Block) (k : Nat) : byteAt (a ||| b) k = byteAt a k ||| byteAt b k := by
  apply BitVec.eq_of_getLsbD_eq
  intro j hj
  simp [getLsbD_byteAt _ _ _ hj]

/-- A byte moved to place i of an empty block. -/
theorem byteAt_shifted (x : Byte) {i k : Nat} (hi : i < 16) (hk : k < 16) :
    byteAt (x.setWidth 128 <<< (8 * (15 - i))) k = if k = i then x else 0 := by
  apply BitVec.eq_of_getLsbD_eq
  intro j hj
  rw [getLsbD_byteAt _ _ _ hj, BitVec.getLsbD_shiftLeft, BitVec.getLsbD_setWidth]
  rcases Nat.lt_trichotomy k i with h | rfl | h
  · rw [if_neg h.ne, BitVec.getLsbD_of_ge x _ (by omega)]
    simp
  · simp [hj, show 8 * (15 - k) + j < 128 by omega, show j < 128 by omega]
  · rw [if_neg h.ne']
    simp [show 8 * (15 - k) + j < 8 * (15 - i) by omega]

/-- Bytes put at the places below m, one after the other. -/
theorem byteAt_foldl_range (f : Nat → Byte) {m k : Nat} (hm : m ≤ 16) (hk : k < 16) :
    byteAt ((List.range m).foldl (fun b i => b ||| (f i).setWidth 128 <<< (8 * (15 - i))) 0) k =
      if k < m then f k else 0 := by
  induction m with
  | zero => simp [byteAt]
  | succ m ih =>
    rw [List.range_succ, List.foldl_append, List.foldl_cons, List.foldl_nil, byteAt_or,
      ih (Nat.le_of_succ_le hm), byteAt_shifted _ hm hk]
    rcases Nat.lt_trichotomy k m with h | rfl | h
    · simp [h, h.ne, Nat.lt_succ_of_lt h]
    · simp
    · simp [h.ne', Nat.not_lt.mpr h.le, Nat.not_lt.mpr (Nat.succ_le_of_lt h)]

/-- Byte k of a padded string: its own, or 0 beyond its end. -/
theorem byteAt_padBlock (bs : List Byte) {k : Nat} (hk : k < 16) :
    byteAt (padBlock bs) k = bs.getD k 0 := by
  rw [padBlock, byteAt_foldl_range (bs.getD · 0) (Nat.le_refl 16) hk, if_pos hk]

/-- A padded string has no byte beyond its own. -/
theorem firstBytes_padBlock (bs : List Byte) : firstBytes bs.length (padBlock bs) = padBlock bs := by
  refine eq_of_byteAt fun k hk => ?_
  rw [byteAt_firstBytes _ _ _ hk, byteAt_padBlock bs hk]
  split
  · rfl
  · next h => exact (List.getD_eq_default _ _ (Nat.not_lt.mp h)).symm

/-! ### A command that the host issues (R79) -/

/-- The four stores of BLK DIN put the block into DIN. -/
theorem writeGroup_din (b : Block) (s : State) :
    writeGroup .din b s = { s with din := blockQuad b } := rfl

theorem check_issue (i : Instr) (w : Word) (s : State) : check i (issue w s) = check i s := by
  cases i <;> rfl

/-- The engine completes an accepted command with its effect (R79, R223). -/
theorem doCommand_of_accepted {i : Instr} {s : State} (hwf : WellFormed i) (hc : check i s = none) :
    doCommand i s =
      .next (finish (effectOf i { issue (encode i) s with err := .none })) := by
  have hdecode : decode (issue (encode i) s).latch = .ok i := decodeOfEncodeIsTheCommand i hwf
  have hexec := exec_of_none ((check_issue i (encode i) s).trans hc)
  rw [doCommand, commandWord_of_wellFormed hwf, writeReg, complete, hdecode]
  simp only [hexec]

/-- The host goes on where the accepted command's effect reports no error (R171). -/
theorem doChecked_of_accepted {i : Instr} {s : State} (hwf : WellFormed i) (hc : check i s = none)
    (herr : (effectOf i { issue (encode i) s with err := .none }).err = .none) :
    doChecked i s = .ok (finish (effectOf i { issue (encode i) s with err := .none })) := by
  rw [doChecked, doCommand_of_accepted hwf hc]
  exact if_pos herr

/-! ### The NONCE commands over the chunks of a nonce (R140, R142) -/

/-- The chunks of a string with a byte in it: its first 16 bytes, and the chunks of the others. -/
theorem chunksUpTo_of_ne_nil (fuel : Nat) {bs : List Byte} (h : bs ≠ []) :
    chunksUpTo (fuel + 1) bs = bs.take 16 :: chunksUpTo fuel (bs.drop 16) := by
  cases bs with
  | nil => exact absurd rfl h
  | cons b bs => rfl

/-- t is s after NONCE commands that took the bytes bs of a nonce in the chunks cs: what START and the next
NONCE see of it (R142). -/
structure TakesNonce (s : State) (bs : List Byte) (cs : List (List Byte)) (t : State) : Prop where
  phase : t.phase = .nonce
  subkey : t.h = s.h
  acc : t.acc = foldChunks s.h s.acc cs
  nbytes : t.nbytes.toNat = s.nbytes.toNat + bs.length
  nraw : t.nraw =
    if s.nbytes = 0 ∧ bs ≠ [] then (padBlock (bs.take 16)).extractLsb' 32 96 else s.nraw

theorem takesNonce_nil {s : State} (h : s.phase = .nonce) : TakesNonce s [] [] s :=
  { phase := h, subkey := rfl, acc := rfl, nbytes := rfl, nraw := by simp }

/-- A nonce taken from its first byte on is what NBYTES counts. -/
theorem TakesNonce.nbytes_eq {s t : State} {bs : List Byte} {cs : List (List Byte)}
    (h : TakesNonce s bs cs t) (hz : s.nbytes = 0) : t.nbytes.toNat = bs.length := by
  simpa [hz] using h.nbytes

/-- One chunk, and then the chunks of the bytes after it. -/
theorem TakesNonce.cons {s t u : State} {bs : List Byte} {cs : List (List Byte)} (hne : bs ≠ [])
    (hhead : TakesNonce s (bs.take 16) [bs.take 16] t) (htail : TakesNonce t (bs.drop 16) cs u) :
    TakesNonce s bs (bs.take 16 :: cs) u where
  phase := htail.phase
  subkey := htail.subkey.trans hhead.subkey
  acc := by rw [htail.acc, hhead.subkey, hhead.acc]; rfl
  nbytes := by
    rw [htail.nbytes, hhead.nbytes, List.length_take, List.length_drop]
    omega
  nraw := by
    have hlen : 0 < (bs.take 16).length := by simpa using List.length_pos_iff.mpr hne
    have ht : t.nbytes ≠ 0 := fun h => by
      have hz : t.nbytes.toNat = 0 := congrArg BitVec.toNat h
      have hcount := hhead.nbytes
      omega
    rw [htail.nraw, if_neg (fun h => ht h.1), hhead.nraw, List.take_take, Nat.min_self]
    simp [hne]

/-- One NONCE over a chunk c: BLK DIN, c ; DO NONCE len=|c| (R171). A full chunk does not close
the nonce section (R29). -/
theorem doChecked_nonce {s : State} {c : List Byte} (h1 : 1 ≤ c.length) (h16 : c.length ≤ 16)
    (hp : s.phase = .nonce) (hncl : s.ncl = false) (hle : s.nbytes.toNat + c.length ≤ 2 ^ 61 - 1) :
    ∃ t, doChecked (.nonce c.length) (writeGroup .din (padBlock c) s) = .ok t ∧
      TakesNonce s c [c] t ∧ (c.length = 16 → t.ncl = false) := by
  have hc : check (.nonce c.length) (writeGroup .din (padBlock c) s) = none :=
    check_nonce_eq_none.mpr ⟨⟨h1, h16⟩, ⟨hp, hncl⟩, hle⟩
  have hdin : ∀ u : State, u.din = blockQuad (padBlock c) → dinBytes c.length u = padBlock c := by
    intro u hu
    rw [dinBytes, dinBlock, hu, quadBlock_blockQuad, firstBytes_padBlock]
  have hne : c ≠ [] := List.length_pos_iff.mp h1
  refine ⟨_, doChecked_of_accepted (show c.length < 256 by omega) hc rfl, ?_, fun hfull => ?_⟩
  · exact {
      phase := hp
      subkey := rfl
      acc := by simp [effectOf, writeGroup_din, hdin, foldChunks]
      nbytes := toNat_countBytes (c := s.nbytes) (by omega)
      nraw := by simp [effectOf, writeGroup_din, hdin, hne, List.take_of_length_le h16] }
  · simp [effectOf, writeGroup_din, hncl, closedAfter, hfull]

/-- The NONCE commands over the chunks of bs are all accepted, in phase NONCE with an open nonce section and
within the limit (R142). -/
theorem feedChunks_nonce {fuel : Nat} {bs : List Byte} (hfuel : bs.length ≤ fuel) {s : State}
    (hp : s.phase = .nonce) (hncl : bs ≠ [] → s.ncl = false)
    (hle : s.nbytes.toNat + bs.length ≤ 2 ^ 61 - 1) :
    ∃ t, feedChunks .nonce (chunksUpTo fuel bs) s = .ok t ∧
      TakesNonce s bs (chunksUpTo fuel bs) t := by
  induction fuel generalizing bs s with
  | zero =>
    obtain rfl := List.length_eq_zero_iff.mp (Nat.le_zero.mp hfuel)
    exact ⟨s, rfl, takesNonce_nil hp⟩
  | succ fuel ih =>
    by_cases hne : bs = []
    · subst hne
      exact ⟨s, rfl, takesNonce_nil hp⟩
    · have hpos := List.length_pos_iff.mpr hne
      have hhead : (bs.take 16).length = min 16 bs.length := List.length_take
      have htail : (bs.drop 16).length = bs.length - 16 := List.length_drop
      obtain ⟨t, hdo, ht, hfull⟩ := doChecked_nonce (c := bs.take 16) (s := s)
        (by omega) (by omega) hp (hncl hne) (by omega)
      have hbytes := ht.nbytes
      have hopen : bs.drop 16 ≠ [] → t.ncl = false := fun h => by
        have hrest := List.length_pos_iff.mpr h
        exact hfull (by omega)
      obtain ⟨u, hfeed, hu⟩ := ih (bs := bs.drop 16) (s := t) (by omega) ht.phase hopen (by omega)
      rw [chunksUpTo_of_ne_nil fuel hne, feedChunks, hdo]
      exact ⟨u, hfeed, ht.cons hne hu⟩

/-! ### START after the NONCE commands (R143) -/

/-- An accepted START of the host, as R143 words it. -/
theorem doChecked_start {s : State} (hp : s.phase = .nonce) (hn : 1 ≤ s.nbytes.toNat)
    (d : Direction) :
    ∃ t, doChecked (.start 0 d) s = .ok t ∧ t.j0 = startJ0 s ∧ t.acc = 0 ∧ t.nbytes = s.nbytes ∧
      t.dir = d ∧ t.phase = .aad :=
  ⟨_, doChecked_of_accepted (show 0 < 256 by decide) (check_start_eq_none.mpr ⟨rfl, hp, hn⟩) rfl,
    rfl, rfl, rfl, rfl, rfl⟩

/-- The J0 that START derives after the NONCE commands over a whole nonce is R140's. -/
theorem TakesNonce.startJ0_eq {s t : State} {nonce : List Byte}
    (h : TakesNonce s nonce (chunks nonce) t) (hacc : s.acc = 0) (hz : s.nbytes = 0)
    (hne : nonce ≠ []) : startJ0 t = j0of s.h nonce := by
  have hbytes := h.nbytes_eq hz
  rw [j0of]
  split
  · next h12 =>
    rw [startJ0_direct (hbytes.trans h12), h.nraw, if_pos ⟨hz, hne⟩,
      List.take_of_length_le (by omega)]
  · next h12 => rw [startJ0_hashed (by omega), h.subkey, h.acc, hacc, hbytes]

/-- Settles O54: the NONCE commands take the whole nonce, and START finishes its J0. -/
theorem nonceCommandsDeriveJ0 : Obligations.NonceCommandsDeriveJ0 := by
  intro s nonce d _ hp hncl hz hacc h1 hle
  have hne : nonce ≠ [] := List.length_pos_iff.mp h1
  have hlimit : s.nbytes.toNat + nonce.length ≤ 2 ^ 61 - 1 := by simpa [hz] using hle
  obtain ⟨t, hfeed, ht⟩ := feedChunks_nonce (Nat.le_refl _) hp (fun _ => hncl) hlimit
  have hbytes := ht.nbytes_eq hz
  obtain ⟨u, hdo, hj0, hu, hub, hdir, hphase⟩ := doChecked_start ht.phase (hbytes ▸ h1) d
  exact ⟨t, u, hfeed, hdo, hj0.trans (ht.startJ0_eq hacc hz hne), hu, hub ▸ hbytes, hdir, hphase⟩

end Sys2Proof.Machine
end

section
/-! AeadEngine (43_aead.md): the commands FINAL, VERIFY and CLEAR (R162 to R167), their results and their
rejections; the tag of an empty message, and one block of the round trip (R170). -/

namespace Sys2Proof.Machine

/-! ### FINAL (R163) -/

theorem lenError_final_eq_none {n : Nat} : lenError (.final n) = none ↔ 1 ≤ n ∧ n ≤ 16 := by
  simp [lenError]

theorem permitted_final_eq_false {n : Nat} {s : State} :
    permitted (.final n) s = false ↔ (s.phase ≠ .aad ∧ s.phase ≠ .data) ∨ s.dir = .decrypt := by
  have hdir : ¬ s.dir = .encrypt ↔ s.dir = .decrypt := by cases s.dir <;> decide
  rw [← Bool.not_eq_true, permitted_final, not_and_or, not_or, hdir]

/-- Settles O33: the checks of R201, then R163's effect with S and the tag written out. -/
theorem finalCommand : Obligations.FinalCommand := by
  intro s n
  refine ⟨fun h1 h16 => ?_, ?_, fun hbad => ?_, fun hop => complete_of_rsv_or_dir (by omega)⟩
  · obtain ⟨-, -, hwords, -⟩ := encodingFunctionAndLegalWords
    obtain ⟨-, -, -, hword, -⟩ := hwords n h1 h16
    exact hword
  · rintro lb sum rfl rfl h1 h16 hp hd
    rw [exec_of_none (check_final_eq_none.mpr ⟨⟨h1, h16⟩, hp, hd⟩)]
    rfl
  · exact exec_of_not_permitted (fun _ => Instr.noConfusion)
      (hbad.imp lenError_final_eq_none.not.mpr permitted_final_eq_false.mpr)

/-! ### VERIFY (R164) -/

theorem lenError_verify_eq_none {n : Nat} : lenError (.verify n) = none ↔ 1 ≤ n ∧ n ≤ 16 := by
  simp [lenError]

theorem permitted_verify_eq_false {n : Nat} {s : State} :
    permitted (.verify n) s = false ↔ (s.phase ≠ .aad ∧ s.phase ≠ .data) ∨ s.dir = .encrypt := by
  have hdir : ¬ s.dir = .decrypt ↔ s.dir = .encrypt := by cases s.dir <;> decide
  rw [← Bool.not_eq_true, permitted_verify, not_and_or, not_or, hdir]

/-- Masked blocks are equal exactly where the first n bytes are. -/
theorem firstBytes_eq_iff {n : Nat} (hn : n ≤ 16) {a b : Block} :
    firstBytes n a = firstBytes n b ↔ ∀ k < n, byteAt a k = byteAt b k := by
  refine ⟨fun h k hk => ?_, firstBytes_congr hn⟩
  have hbyte := congrArg (byteAt · k) h
  simpa only [byteAt_firstBytes _ _ _ (hk.trans_le hn), if_pos hk] using hbyte

theorem tagsMatch_eq_true {n : Nat} {s : State} :
    tagsMatch n s = true ↔ firstBytes n (fullTag s) = firstBytes n (quadBlock s.tagin) :=
  decide_eq_true_iff

/-- The state a VERIFY leaves where the tags match, as R164 words it. -/
theorem verifyEffect_of_match {n : Nat} {s : State} (h : tagsMatch n s = true) :
    verifyEffect n s =
      { s with acc := finalAcc s, tagout := zeroQuad, phase := .finalized, err := .none } := by
  simp [verifyEffect, h]

/-- The state a VERIFY leaves where the tags differ, as R164 words it. -/
theorem verifyEffect_of_mismatch {n : Nat} {s : State} (h : tagsMatch n s = false) :
    verifyEffect n s =
      { s with
        acc := finalAcc s, tagout := zeroQuad, dout := zeroQuad
        phase := .finalized, err := .authenticationFailure } := by
  simp [verifyEffect, h]

/-- Settles O34: the checks of R201, and then the bytes of the two tags between R164's two outcomes. -/
theorem verifyCommand : Obligations.VerifyCommand := by
  intro s n
  refine ⟨fun h1 h16 => ?_, ?_, fun hbad => ?_, fun hop => complete_of_rsv_or_dir (by omega)⟩
  · obtain ⟨-, -, hwords, -⟩ := encodingFunctionAndLegalWords
    obtain ⟨-, -, -, -, hword⟩ := hwords n h1 h16
    exact hword
  · rintro lb sum tag rfl rfl rfl h1 h16 hp hd
    have hmatch : tagsMatch n { s with err := .none } = true ↔
        ∀ k < n, byteAt (fullTag s) k = byteAt (quadBlock s.tagin) k :=
      tagsMatch_eq_true.trans (firstBytes_eq_iff h16)
    rw [exec_of_none (check_verify_eq_none.mpr ⟨⟨h1, h16⟩, hp, hd⟩)]
    refine ⟨fun hsame => ?_, fun ⟨k, hk, hdiff⟩ => ?_⟩
    · exact congrArg Host.Outcome.next (verifyEffect_of_match (hmatch.mpr hsame))
    · have hno : tagsMatch n { s with err := .none } = false :=
        Bool.eq_false_iff.mpr fun htrue => hdiff (hmatch.mp htrue k hk)
      exact congrArg Host.Outcome.next (verifyEffect_of_mismatch hno)
  · exact exec_of_not_permitted (fun _ => Instr.noConfusion)
      (hbad.imp lenError_verify_eq_none.not.mpr permitted_verify_eq_false.mpr)

/-! ### CLEAR (R167, R221) -/

/-- A CLEAR completes with the state that the reset input leaves (R221). -/
theorem complete_clear {s : State} (h : decode s.latch = .ok (.clear 0)) :
    complete s = .next (assertReset s) := by
  rw [complete, h]
  rfl

/-- Settles O37: the LEN alone decides, in every phase. -/
theorem clearCommand : Obligations.ClearCommand := by
  intro s n
  obtain ⟨-, -, -, -, -, -, -, -, -, hword⟩ := encodingFunctionAndLegalWords
  obtain ⟨-, -, -, -, -, hdecode⟩ := writtenOutWordsDecode
  refine ⟨hword, ?_, fun hl => ?_, fun hn => ?_, fun hop => complete_of_rsv_or_dir (by omega)⟩
  · rw [exec_of_none (check_clear_zero s)]
    rfl
  · refine ⟨assertReset s, complete_clear (hl ▸ hdecode), ?_⟩
    rw [step_of_agenda rfl]
    rfl
  · exact exec_of_usageError (check_clear_eq_none.not.mpr hn) (fun _ => Instr.noConfusion) rfl

/-! ### The empty message and the round trip of one block (R170) -/

/-- Nothing folded into an empty accumulator leaves it empty (R122). -/
theorem fold_zero_zero (h : Block) : fold h 0 0 = 0 := by
  obtain ⟨hzero, -⟩ := multiplyIsBilinearWithIdentity 0 h 0
  exact hzero

/-- Settles O59: the length block of an empty message is 0, so FINAL keeps S = 0 and masks nothing. -/
theorem emptyMessageTagIsTheMask : Obligations.EmptyMessageTagIsTheMask := by
  intro s n hp hd hacc ha hdb h1 h16
  obtain ⟨-, hfinal, -⟩ := finalCommand s n
  have hlengths : (0 : Block) =
      BitVec.ofNat 64 (8 * s.abytes.toNat) ++ BitVec.ofNat 64 (8 * s.dbytes.toNat) := by
    rw [ha, hdb]
    rfl
  have hsum : s.acc = fold s.h s.acc 0 := by rw [hacc, fold_zero_zero]
  rw [hfinal 0 s.acc hlengths hsum h1 h16 (.inl hp) hd, hacc,
    show encrypt s.tables s.rk s.j0 ^^^ 0 = encrypt s.tables s.rk s.j0 from BitVec.xor_zero]

/-- Masking and XORing with the same keystream twice gives back the first n bytes. -/
theorem firstBytes_xor_cancel (n : Nat) (b ks : Block) :
    firstBytes n (firstBytes n (b ^^^ ks) ^^^ ks) = firstBytes n b := by
  rw [firstBytes_xor, firstBytes_firstBytes, ← firstBytes_xor, BitVec.xor_assoc, BitVec.xor_self,
    BitVec.xor_zero]

/-- Settles O58: the decrypting DATA sees the masked output as its input, and the same keystream. -/
theorem decryptBlockInvertsEncryptBlock : Obligations.DecryptBlockInvertsEncryptBlock := by
  intro s t n hd hc h
  rw [exec_of_none hc] at h
  cases h
  refine ⟨_, exec_of_none hc, ?_, rfl, rfl, ?_⟩
  · simp [effectOf, dataCiphertext, dinBytes, dinBlock, dataOut, hd, keystream]
  · simp [effectOf, dataOut, dinBlock, keystream, firstBytes_xor_cancel]

end Sys2Proof.Machine
end

section
/-! The phase (43_aead.md R160, R161, R168): where each command leads, which commands the table permits, and
how a message is opened. -/

namespace Sys2Proof.Machine

/-! ### The phase after a command (R160, R202) -/

/-- An accepted command moves to the phase of R160's table: NONCE and AAD, which write no phase, are
accepted in their own phase alone. -/
theorem effectOf_phase {i : Instr} {s : State} (h : check i s = none) :
    (effectOf i { s with err := .none }).phase = acceptedPhase i s.phase := by
  cases i with
  | nonce n => exact (check_nonce_eq_none.mp h).2.1.1
  | aad n => exact (check_aad_eq_none.mp h).2.1.1
  | _ => rfl

/-- Settles O41: the accepted command's phase, and the rejections by their code. -/
theorem phaseTransitions : Obligations.PhaseTransitions := by
  intro i s t h
  rcases exec_cases h with ⟨e, he, rfl⟩ | ⟨hc, rfl⟩
  · rw [he]
    refine ⟨nofun, fun hk => ?_, fun e' hcode hne => ?_⟩
    · cases hk
      rfl
    · cases hcode
      rw [reject_of_ne hne]
      refine ⟨fun hin => ?_, fun hout => ?_⟩
      · rcases hin with hp | hp | hp | hp <;> simp [hp, inMessage]
      · rcases hout with hp | hp <;> simp [hp, inMessage]
  · rw [hc]
    exact ⟨fun _ => effectOf_phase hc, nofun, nofun⟩

/-! ### The table of permitted commands (R161) -/

/-- The check of R201 step 4 is R161's table. -/
theorem permittedTable_opcodeOf (i : Instr) (s : State) :
    permittedTable (opcodeOf i).toNat s = permitted i s := by
  cases i <;> cases hp : s.phase <;> simp [permittedTable, permitted, opcodeOf, hp]

/-- No accepted command reports a USAGE_ERROR (R203). -/
theorem effectOf_err_ne_usageError {i : Instr} {s : State} (h : s.err ≠ .usageError) :
    (effectOf i s).err ≠ .usageError := by
  cases i with
  | verify n => cases hm : tagsMatch n s <;> simp [effectOf, hm]
  | clear n => exact nofun
  | _ => exact h

/-- Settles O42: with a legal LEN the table alone decides on USAGE_ERROR; past it stands only the limit. -/
theorem permittedCommandsTable : Obligations.PermittedCommandsTable := by
  intro i s hl
  rw [permittedTable_opcodeOf]
  refine ⟨fun hp => exec_of_not_permitted ?_ (.inr hp), fun hp => ?_⟩
  · rintro n rfl
    cases hp
  · cases ho : overLimit i s with
    | true => exact ⟨_, exec_of_overLimit hl hp ho, nofun⟩
    | false =>
      exact ⟨_, exec_of_none (check_eq_none.mpr ⟨hl, hp, ho⟩), effectOf_err_ne_usageError nofun⟩

/-! ### How a message is opened (R168) -/

/-- No rejection leads into phase NONCE. -/
theorem reject_phase_ne_nonce (e : ErrCode) (s : State) : (reject e s).phase ≠ .nonce := by
  by_cases he : e = .invalidKeyLength
  · subst he
    exact nofun
  · rw [reject_of_ne he]
    cases s.phase <;> simp [inMessage]

/-- The commands after which R160's table has phase NONCE: KEYSET, and those that keep the phase. -/
theorem keyset_of_acceptedPhase {i : Instr} {s : State} (hc : check i s = none)
    (hn : acceptedPhase i s.phase = .nonce) (hs : s.phase ≠ .nonce) : i = .keyset 16 := by
  cases i with
  | keyset n => rw [check_keyset_eq_none.mp hc]
  | nonce n => exact absurd (check_nonce_eq_none.mp hc).2.1.1 hs
  | ecb n | gmul n => exact absurd hn hs
  | _ => cases hn

/-- Settles O44: of all that a step can do, only an accepted KEYSET leads into phase NONCE. -/
theorem onlyKeysetOpensAMessage : Obligations.OnlyKeysetOpensAMessage := by
  intro s t h ht hs
  rcases step_context_cases h with hsame | ⟨rest, -, rfl⟩ | ⟨hb, rest, hcomplete⟩
  · rw [hsame] at ht
    exact absurd ht hs
  · cases ht
  · rcases complete_cases hcomplete with ⟨-, -, rfl⟩ | ⟨i, u, hdecode, hexec, rfl⟩
    · exact absurd ht (reject_phase_ne_nonce _ _)
    · rcases exec_cases hexec with ⟨e, -, rfl⟩ | ⟨hc, rfl⟩
      · exact absurd ht (reject_phase_ne_nonce _ _)
      · obtain rfl := keyset_of_acceptedPhase hc ((effectOf_phase hc).symm.trans ht) hs
        exact ⟨hb, hdecode, rfl, rfl, rfl, rfl, rfl, rfl, rfl, rfl⟩

end Sys2Proof.Machine
end

section
/-! The blocks of a section (42_ctr.md R140, 43_aead.md R171, R173): the chunks of a byte string are the one
way to cut it into whole blocks and a last one that may be shorter, whoever cuts it. -/

namespace Sys2Proof.Machine

/-! ### Whole blocks and a last one -/

/-- Strings of 1 to 16 bytes, of which only the last may have fewer than 16 (R173, R228). -/
def IsBlocks : List (List Byte) → Prop
  | [] => True
  | c :: cs => (1 ≤ c.length ∧ c.length ≤ 16) ∧ (cs ≠ [] → c.length = 16) ∧ IsBlocks cs

/-- The first 16 bytes of a string before the blocks of the others. -/
theorem isBlocks_take_cons {bs : List Byte} (hne : bs ≠ []) {cs : List (List Byte)} (h : IsBlocks cs)
    (hflat : cs.flatten = bs.drop 16) : IsBlocks (bs.take 16 :: cs) := by
  have hpos := List.length_pos_iff.mpr hne
  have hhead : (bs.take 16).length = min 16 bs.length := List.length_take
  refine ⟨⟨by omega, by omega⟩, fun hcs => ?_, h⟩
  cases cs with
  | nil => exact absurd rfl hcs
  | cons c cs =>
    obtain ⟨⟨h1, -⟩, -⟩ := h
    have hlen := congrArg List.length hflat
    rw [List.flatten_cons, List.length_append, List.length_drop] at hlen
    omega

/-- The chunks of a string are blocks, and they hold the string. -/
theorem isBlocks_chunksUpTo {fuel : Nat} {bs : List Byte} (hfuel : bs.length ≤ fuel) :
    IsBlocks (chunksUpTo fuel bs) ∧ (chunksUpTo fuel bs).flatten = bs := by
  induction fuel generalizing bs with
  | zero =>
    obtain rfl := List.length_eq_zero_iff.mp (Nat.le_zero.mp hfuel)
    exact ⟨trivial, rfl⟩
  | succ fuel ih =>
    by_cases hne : bs = []
    · subst hne
      exact ⟨trivial, rfl⟩
    · have hpos := List.length_pos_iff.mpr hne
      obtain ⟨hblocks, hflat⟩ := ih (bs := bs.drop 16) (by rw [List.length_drop]; omega)
      rw [chunksUpTo_of_ne_nil fuel hne]
      exact ⟨isBlocks_take_cons hne hblocks hflat, by
        rw [List.flatten_cons, hflat, List.take_append_drop]⟩

theorem isBlocks_chunks (bs : List Byte) : IsBlocks (chunks bs) :=
  (isBlocks_chunksUpTo (Nat.le_refl _)).1

theorem flatten_chunks (bs : List Byte) : (chunks bs).flatten = bs :=
  (isBlocks_chunksUpTo (Nat.le_refl _)).2

/-- Blocks are the chunks of the string that they hold. -/
theorem chunksUpTo_flatten {cs : List (List Byte)} (h : IsBlocks cs) {fuel : Nat}
    (hfuel : cs.flatten.length ≤ fuel) : chunksUpTo fuel cs.flatten = cs := by
  induction cs generalizing fuel with
  | nil => cases fuel <;> rfl
  | cons c cs ih =>
    obtain ⟨⟨h1, h16⟩, hfull, hcs⟩ := h
    rw [List.flatten_cons, List.length_append] at hfuel
    obtain ⟨fuel, rfl⟩ : ∃ k, fuel = k + 1 := ⟨fuel - 1, by omega⟩
    have hne : c ++ cs.flatten ≠ [] := by
      simpa using fun hc : c = [] => absurd h1 (by simp [hc])
    have hcut : (c ++ cs.flatten).take 16 = c ∧ (c ++ cs.flatten).drop 16 = cs.flatten := by
      by_cases hnil : cs = []
      · subst hnil
        simp [List.take_of_length_le h16, List.drop_eq_nil_of_le h16]
      · rw [← hfull hnil]
        exact ⟨List.take_left, List.drop_left⟩
    rw [List.flatten_cons, chunksUpTo_of_ne_nil fuel hne, hcut.1, hcut.2, ih hcs (by omega)]

theorem chunks_flatten {cs : List (List Byte)} (h : IsBlocks cs) : chunks cs.flatten = cs :=
  chunksUpTo_flatten h (Nat.le_refl _)

/-- The chunks of a string with a byte in it. -/
theorem chunks_of_ne_nil {bs : List Byte} (h : bs ≠ []) :
    chunks bs = bs.take 16 :: chunks (bs.drop 16) := by
  have hblocks := isBlocks_take_cons h (isBlocks_chunks _) (flatten_chunks _)
  have hchunks := chunks_flatten hblocks
  rwa [List.flatten_cons, flatten_chunks, List.take_append_drop] at hchunks

/-! ### Streamed calls (R173) -/

/-- The chunks of whole blocks with other bytes after them. -/
theorem chunks_append {q : Nat} {whole : List Byte} (hlen : whole.length = 16 * q)
    (rest : List Byte) : chunks (whole ++ rest) = chunks whole ++ chunks rest := by
  induction q generalizing whole with
  | zero =>
    obtain rfl := List.length_eq_zero_iff.mp hlen
    rfl
  | succ q ih =>
    have h16 : 16 ≤ whole.length := by omega
    have hne : whole ≠ [] := List.length_pos_iff.mp (by omega)
    have hdrop : (whole.drop 16).length = 16 * q := by rw [List.length_drop]; omega
    rw [chunks_of_ne_nil hne, chunks_of_ne_nil (List.append_ne_nil_of_left_ne_nil hne rest),
      List.take_append_of_le_length h16, List.drop_append_of_le_length h16, ih hdrop, List.cons_append]

/-- The calls still to come issue the chunks of the bytes kept back and of their own. -/
theorem streamBlocks_eq_chunks {held : List Byte} (h : held.length < 16) (calls : List (List Byte)) :
    streamBlocks held calls = chunks (held ++ calls.flatten) := by
  induction calls generalizing held with
  | nil =>
    rw [streamBlocks, List.flatten_nil, List.append_nil]
    split
    · next hnil => rw [hnil]; rfl
    · next hne =>
      rw [chunks_of_ne_nil hne, List.take_of_length_le h.le, List.drop_eq_nil_of_le h.le]
      rfl
  | cons call calls ih =>
    rw [streamBlocks, streamCall, List.flatten_cons, ← List.append_assoc]
    generalize held ++ call = bytes
    have hwhole : (bytes.take (16 * (bytes.length / 16))).length = 16 * (bytes.length / 16) := by
      rw [List.length_take]
      omega
    have hheld : (bytes.drop (16 * (bytes.length / 16))).length < 16 := by
      rw [List.length_drop]
      omega
    rw [ih hheld, ← chunks_append hwhole, ← List.append_assoc, List.take_append_drop]

/-- Settles O60: nothing is kept back before the first call. -/
theorem streamedCallsGiveTheSameBlocks : Obligations.StreamedCallsGiveTheSameBlocks :=
  streamBlocks_eq_chunks (by decide)

end Sys2Proof.Machine
end

section
/-! What the host's one-shot operations (43_aead.md R171, R172) are made of: padded strings and the bytes of a
block (R11), and what a command that the host issues and checks answers (R79). -/

namespace Sys2Proof.Machine

/-! ### Padded strings and the bytes of a block (R11) -/

/-- Byte k of a block, from its list of bytes. -/
theorem blockBytes_getElem (b : Block) {k : Nat} (hk : k < (blockBytes b).length) :
    (blockBytes b)[k] = byteAt b k := by
  simp [blockBytes]

theorem take_blockBytes_firstBytes {n : Nat} (b : Block) :
    (blockBytes (firstBytes n b)).take n = (blockBytes b).take n := by
  refine List.ext_getElem (by simp) fun k hk _ => ?_
  have hlt : k < n ∧ k < 16 := by simpa using hk
  rw [List.getElem_take, List.getElem_take, blockBytes_getElem, blockBytes_getElem,
    byteAt_firstBytes _ _ _ hlt.2, if_pos hlt.1]

/-- A padded string gives its bytes back. -/
theorem take_blockBytes_padBlock {c : List Byte} (h16 : c.length ≤ 16) :
    (blockBytes (padBlock c)).take c.length = c := by
  refine List.ext_getElem (by simpa using h16) fun k _ hk => ?_
  rw [List.getElem_take, blockBytes_getElem, byteAt_padBlock c (hk.trans_le h16),
    List.getD_eq_getElem c 0 hk]

/-- The first n bytes of a block, padded again, are the masked block. -/
theorem padBlock_take_blockBytes (n : Nat) (b : Block) :
    padBlock ((blockBytes b).take n) = firstBytes n b := by
  refine eq_of_byteAt fun k hk => ?_
  rw [byteAt_padBlock _ hk, byteAt_firstBytes _ _ _ hk]
  split
  · next hkn => rw [List.getD_eq_getElem _ 0 (by simp [hkn, hk]), List.getElem_take, blockBytes_getElem]
  · next hkn => exact List.getD_eq_default _ _ (by simp; omega)

/-- A chunk XORed with the bytes of a block keeps its length. -/
theorem length_zipWith_blockBytes {c : List Byte} (h16 : c.length ≤ 16) (ks : Block) :
    (List.zipWith (· ^^^ ·) c (blockBytes ks)).length = c.length := by
  simpa using h16

/-- A chunk XORed with the bytes of a keystream block, as one block of the engine (R146). -/
theorem firstBytes_padBlock_xor {c : List Byte} (h16 : c.length ≤ 16) (ks : Block) :
    firstBytes c.length (padBlock c ^^^ ks) = padBlock (List.zipWith (· ^^^ ·) c (blockBytes ks)) := by
  have hlen := length_zipWith_blockBytes h16 ks
  refine eq_of_byteAt fun k hk => ?_
  rw [byteAt_firstBytes _ _ _ hk, byteAt_xor, byteAt_padBlock _ hk, byteAt_padBlock _ hk]
  split
  · next hkc =>
    rw [List.getD_eq_getElem _ 0 hkc, List.getD_eq_getElem _ 0 (hlen ▸ hkc), List.getElem_zipWith,
      blockBytes_getElem]
  · next hkc => exact (List.getD_eq_default _ _ (hlen ▸ Nat.not_lt.mp hkc)).symm

/-! ### What a checked command answers (R79, R171) -/

theorem reject_err (e : ErrCode) (s : State) : (reject e s).err = e := by
  cases e <;> rfl

/-- The engine completes a well-formed command of the host as exec says (R79, R223). -/
theorem doCommand_of_exec {i : Instr} {s t : State} (hwf : WellFormed i)
    (h : exec i (issue (encode i) s) = .next t) : doCommand i s = .next (finish t) := by
  have hdecode : decode (issue (encode i) s).latch = .ok i := decodeOfEncodeIsTheCommand i hwf
  rw [doCommand, commandWord_of_wellFormed hwf, writeReg, complete, hdecode]
  simp only [h]

/-- A well-formed command without an error passed its checks, and its effect was applied. -/
theorem doChecked_ok {i : Instr} {s t : State} (hwf : WellFormed i) (h : doChecked i s = .ok t) :
    check i s = none ∧ t = finish (effectOf i { issue (encode i) s with err := .none }) := by
  cases hc : check i s with
  | none =>
    rw [doChecked, doCommand_of_accepted hwf hc] at h
    simp only at h
    split at h
    · cases h
      exact ⟨rfl, rfl⟩
    · cases h
  | some e =>
    have hne : (reject e (issue (encode i) s)).err ≠ .none := by
      rw [reject_err]
      rcases check_codes hc with ⟨rfl, -⟩ | ⟨rfl | rfl, -⟩ <;> decide
    rw [doChecked, doCommand_of_exec hwf (exec_of_some ((check_issue i _ s).trans hc))] at h
    simp [hne] at h

/-- A number of R77 whose LEN does not fit its field reaches DIR or RSV, or is no word at all (log 19). -/
theorem commandWord_of_not_wellFormed {i : Instr} (hd : dirOf i = false) (hop : opcodeOf i ≠ 0x03#8)
    (h : ¬ WellFormed i) :
    65536 ≤ (commandWord i).toNat ∧ (commandWord i).toNat % 256 ≠ 3 := by
  have hlen : 256 ≤ i.len := Nat.not_lt.mp h
  have hop3 : (opcodeOf i).toNat ≠ 3 := fun h3 => hop (BitVec.eq_of_toNat_eq h3)
  have hop8 : (opcodeOf i).toNat < 2 ^ 8 := (opcodeOf i).isLt
  have hnum : commandNumber i = 256 * i.len + (opcodeOf i).toNat := by
    rw [commandNumber, hd, Bool.toNat_false, Nat.zero_shiftLeft, Nat.zero_or,
      ← Nat.shiftLeft_add_eq_or_of_lt hop8, Nat.shiftLeft_eq, Nat.mul_comm]
  rw [commandWord]
  split
  · next hlt =>
    rw [BitVec.toNat_ofNat, Nat.mod_eq_of_lt hlt]
    omega
  · decide

/-- A command of an illegal LEN, other than KEYSET and START, is a USAGE_ERROR whether or not its LEN fits the
field (R165, D12). -/
theorem doChecked_of_lenError {i : Instr} (hk : ∀ n, i ≠ .keyset n) (hop : opcodeOf i ≠ 0x03#8)
    (hl : lenError i ≠ none) (s : State) :
    doChecked i s = .error (.engineError .usageError
      { failMessage .usageError (issue (commandWord i) s) with busy := false }) := by
  have hdo : doCommand i s =
      .next { failMessage .usageError (issue (commandWord i) s) with busy := false } := by
    by_cases hwf : WellFormed i
    · rw [doCommand_of_exec hwf (exec_of_not_permitted hk (.inl hl)), commandWord_of_wellFormed hwf]
      rfl
    · have hdir : dirOf i = false := Bool.eq_false_iff.mpr fun hd => hop (opcodeOf_of_dirOf hd)
      obtain ⟨hbig, h3⟩ := commandWord_of_not_wellFormed hdir hop hwf
      exact complete_of_rsv_or_dir (s := issue (commandWord i) s) h3 hbig
  rw [doChecked, hdo]
  rfl

end Sys2Proof.Machine
end

section
/-! The commands that the host issues over the chunks of a message (R79, R171): the AAD commands fold the
associated data (R126), and the DATA commands give the source's counter-mode output and fold the ciphertext
(R144 to R146). -/

namespace Sys2Proof.Machine

/-! ### What a message keeps from START to its tag -/

/-- What START fixes for its message and the commands up to the tag only read, with TAGOUT, which they leave
as KEYSET emptied it (R31 to R33, R36, R42). -/
structure Message where
  tables : Tables
  rk : Vector Word 32
  h : Block
  j0 : Block
  dir : Direction
  tagout : Quad

/-- The message that a state is in. -/
def messageOf (s : State) : Message := ⟨s.tables, s.rk, s.h, s.j0, s.dir, s.tagout⟩

/-- The message of a key and a nonce, as KEYSET, NONCE and START derive it (R108, R140). -/
def messageFor (t : Tables) (key : Block) (nonce : List Byte) (d : Direction) : Message :=
  ⟨t, keySchedule t key, subkey t key, j0of (subkey t key) nonce, d, zeroQuad⟩

/-- What the effect of a command sees that the host issues over a chunk c: BLK DIN, c ; DO (R79, R203). -/
def chunkInput (i : Instr) (c : List Byte) (s : State) : State :=
  { s with din := blockQuad (padBlock c), latch := encode i, busy := true, err := .none }

/-- The input is the chunk, zero-padded (R123). -/
theorem dinBlock_chunkInput (i : Instr) (c : List Byte) (s : State) :
    dinBlock (chunkInput i c s) = padBlock c :=
  quadBlock_blockQuad (padBlock c)

theorem dinBytes_chunkInput (i : Instr) (c : List Byte) (s : State) :
    dinBytes c.length (chunkInput i c s) = padBlock c := by
  rw [dinBytes, dinBlock_chunkInput, firstBytes_padBlock]

theorem keystream_chunkInput (i : Instr) (c : List Byte) (s : State) :
    keystream (chunkInput i c s) = keystream s := rfl

/-- BLK DIN, c ; DO: an accepted command has its effect on the chunk's input. -/
theorem doChecked_chunk_of_accepted {i : Instr} (hwf : WellFormed i) {c : List Byte} {s : State}
    (hc : check i s = none) (herr : (effectOf i (chunkInput i c s)).err = .none) :
    doChecked i (writeGroup .din (padBlock c) s) = .ok (finish (effectOf i (chunkInput i c s))) := by
  rw [writeGroup_din]
  exact doChecked_of_accepted hwf ((check_setDin i s _).trans hc) herr

/-- BLK DIN, c ; DO without an error had its effect on the chunk's input. -/
theorem doChecked_chunk_ok {i : Instr} (hwf : WellFormed i) {c : List Byte} {s t : State}
    (h : doChecked i (writeGroup .din (padBlock c) s) = .ok t) :
    t = finish (effectOf i (chunkInput i c s)) := by
  rw [writeGroup_din] at h
  obtain ⟨-, ht⟩ := doChecked_ok hwf h
  exact ht

/-- A full chunk does not close an open section (R29). -/
theorem closedAfter_of_full {flag : Bool} (h : flag = false) : closedAfter flag 16 = false := by
  rw [h, closedAfter_false_eq_false]

/-! ### The AAD commands over the chunks of the associated data (R126, R171) -/

/-- t is s after AAD commands over the blocks cs. -/
structure TakesAad (s : State) (cs : List (List Byte)) (t : State) : Prop where
  message : messageOf t = messageOf s
  phase : t.phase = .aad
  acc : t.acc = foldChunks s.h s.acc cs
  abytes : t.abytes.toNat = s.abytes.toNat + cs.flatten.length
  dbytes : t.dbytes = s.dbytes
  dcl : t.dcl = s.dcl

theorem TakesAad.subkey_eq {s t : State} {cs : List (List Byte)} (h : TakesAad s cs t) : t.h = s.h :=
  congrArg Message.h h.message

theorem TakesAad.abytes_eq {s t : State} {c : List Byte} (h : TakesAad s [c] t) :
    t.abytes.toNat = s.abytes.toNat + c.length := by
  simpa using h.abytes

theorem TakesAad.cons {s t u : State} {c : List Byte} {cs : List (List Byte)}
    (hhead : TakesAad s [c] t) (htail : TakesAad t cs u) : TakesAad s (c :: cs) u where
  message := htail.message.trans hhead.message
  phase := htail.phase
  acc := by rw [htail.acc, hhead.subkey_eq, hhead.acc]; rfl
  abytes := by
    rw [htail.abytes, hhead.abytes_eq, List.flatten_cons, List.length_append, Nat.add_assoc]
  dbytes := htail.dbytes.trans hhead.dbytes
  dcl := htail.dcl.trans hhead.dcl

/-- One AAD over a chunk c; a full chunk does not close the section (R29). -/
theorem doChecked_aad {s : State} {c : List Byte} (hc : 1 ≤ c.length ∧ c.length ≤ 16)
    (hp : s.phase = .aad) (hacl : s.acl = false) (hle : s.abytes.toNat + c.length ≤ 2 ^ 61 - 1) :
    ∃ t, doChecked (.aad c.length) (writeGroup .din (padBlock c) s) = .ok t ∧ TakesAad s [c] t ∧
      (c.length = 16 → t.acl = false) := by
  have hwf : WellFormed (.aad c.length) := show c.length < 256 by omega
  refine ⟨finish (aadEffect c.length (chunkInput (.aad c.length) c s)),
    doChecked_chunk_of_accepted hwf (check_aad_eq_none.mpr ⟨hc, ⟨hp, hacl⟩, hle⟩) rfl, ?_,
    fun hfull => ?_⟩
  · exact {
      message := rfl
      phase := hp
      acc := by
        rw [finish_acc, aadEffect_acc, dinBytes_chunkInput]
        rfl
      abytes := by
        rw [List.flatten_singleton]
        exact toNat_countBytes (c := s.abytes) (by omega)
      dbytes := rfl
      dcl := rfl }
  · rw [hfull]
    exact closedAfter_of_full hacl

/-- The AAD commands over blocks are all accepted, in phase AAD with an open section and within the limit. -/
theorem feedChunks_aad {cs : List (List Byte)} (hcs : IsBlocks cs) {s : State} (hp : s.phase = .aad)
    (hacl : cs ≠ [] → s.acl = false) (hle : s.abytes.toNat + cs.flatten.length ≤ 2 ^ 61 - 1) :
    ∃ t, feedChunks .aad cs s = .ok t ∧ TakesAad s cs t := by
  induction cs generalizing s with
  | nil => exact ⟨s, rfl, rfl, hp, rfl, rfl, rfl, rfl⟩
  | cons c cs ih =>
    obtain ⟨hc, hfull, hrest⟩ := hcs
    rw [List.flatten_cons, List.length_append] at hle
    obtain ⟨t, hdo, ht, hopen⟩ := doChecked_aad hc hp (hacl (List.cons_ne_nil c cs)) (by omega)
    have hbytes := ht.abytes_eq
    obtain ⟨u, hfeed, hu⟩ := ih hrest ht.phase (fun hne => hopen (hfull hne)) (by omega)
    exact ⟨u, by rw [feedChunks, hdo, ← hfeed], ht.cons hu⟩

/-! ### The DATA commands over the chunks of a text (R146, R171) -/

/-- The output of the DATA commands over the blocks cs (R145, R146). -/
def outputBlocks (s : State) (cs : List (List Byte)) : List (List Byte) :=
  ctrChunks s.tables s.rk s.j0 (blockIndex s.dbytes) cs

/-- The ciphertext blocks that they fold: the output when encrypting, the input when decrypting (R146). -/
def foldedBlocks (s : State) (cs : List (List Byte)) : List (List Byte) :=
  match s.dir with
  | .encrypt => outputBlocks s cs
  | .decrypt => cs

/-- t is s after DATA commands over the blocks cs. -/
structure TakesData (s : State) (cs : List (List Byte)) (t : State) : Prop where
  message : messageOf t = messageOf s
  phase : t.phase = .aad ∨ t.phase = .data
  acc : t.acc = foldChunks s.h s.acc (foldedBlocks s cs)
  abytes : t.abytes = s.abytes
  dbytes : t.dbytes.toNat = s.dbytes.toNat + cs.flatten.length

theorem foldedBlocks_nil (s : State) : foldedBlocks s [] = [] := by
  rw [foldedBlocks]
  cases s.dir <;> rfl

section

variable {s t : State} {c : List Byte} {cs : List (List Byte)} (h : TakesData s [c] t)
  (hfull : cs ≠ [] → c.length = 16)

include h

theorem TakesData.dbytes_eq : t.dbytes.toNat = s.dbytes.toNat + c.length := by
  simpa using h.dbytes

include hfull

/-- The next block's keystream has the next index (R145). -/
theorem TakesData.outputBlocks_cons :
    outputBlocks s (c :: cs) =
      List.zipWith (· ^^^ ·) c (blockBytes (keystream s)) :: outputBlocks t cs := by
  obtain ⟨htables, hrk, -, hj0, -⟩ := Message.mk.inj h.message
  by_cases hnil : cs = []
  · rw [hnil]
    rfl
  · have hindex : blockIndex t.dbytes = blockIndex s.dbytes + 1 := by
      have hbytes := h.dbytes_eq
      rw [hfull hnil] at hbytes
      rw [blockIndex, blockIndex, hbytes]
      omega
    rw [outputBlocks, outputBlocks, htables, hrk, hj0, hindex]
    rfl

theorem TakesData.foldedBlocks_cons :
    foldedBlocks s (c :: cs) = foldedBlocks s [c] ++ foldedBlocks t cs := by
  obtain ⟨-, -, -, -, hdir, -⟩ := Message.mk.inj h.message
  rw [foldedBlocks, foldedBlocks, foldedBlocks, hdir]
  cases s.dir with
  | encrypt => exact h.outputBlocks_cons hfull
  | decrypt => rfl

end

theorem foldChunks_append (h a : Block) (cs ds : List (List Byte)) :
    foldChunks h a (cs ++ ds) = foldChunks h (foldChunks h a cs) ds := by
  induction cs generalizing a with
  | nil => rfl
  | cons c cs ih => exact ih _

theorem TakesData.cons {s t u : State} {c : List Byte} {cs : List (List Byte)}
    (hfull : cs ≠ [] → c.length = 16) (hhead : TakesData s [c] t) (htail : TakesData t cs u) :
    TakesData s (c :: cs) u where
  message := htail.message.trans hhead.message
  phase := htail.phase
  acc := by
    have hh : t.h = s.h := congrArg Message.h hhead.message
    rw [htail.acc, hh, hhead.acc, hhead.foldedBlocks_cons hfull, foldChunks_append]
  abytes := htail.abytes.trans hhead.abytes
  dbytes := by
    rw [htail.dbytes, hhead.dbytes_eq, List.flatten_cons, List.length_append, Nat.add_assoc]

/-- The output block of a DATA over a chunk c is c XORed with the keystream's bytes (R146). -/
theorem dataOut_chunkInput {c : List Byte} (h16 : c.length ≤ 16) (i : Instr) (s : State) :
    dataOut c.length (chunkInput i c s) =
      padBlock (List.zipWith (· ^^^ ·) c (blockBytes (keystream s))) := by
  rw [dataOut, dinBlock_chunkInput, keystream_chunkInput, firstBytes_padBlock_xor h16]

/-- The ciphertext block that a DATA over a chunk c folds. -/
theorem fold_dataCiphertext_chunkInput {c : List Byte} (h16 : c.length ≤ 16) (i : Instr) (s : State) :
    fold s.h s.acc (dataCiphertext c.length (chunkInput i c s)) =
      foldChunks s.h s.acc (foldedBlocks s [c]) := by
  rw [dataCiphertext, foldedBlocks, dataOut_chunkInput h16, dinBytes_chunkInput,
    show (chunkInput i c s).dir = s.dir from rfl]
  cases s.dir <;> rfl

/-- GET DOUT after a DATA over a chunk c. -/
theorem readGroup_dout_chunkInput {c : List Byte} (h16 : c.length ≤ 16) (i : Instr) (s : State) :
    (blockBytes (readGroup .dout (finish (dataEffect c.length (chunkInput i c s))))).take c.length =
      List.zipWith (· ^^^ ·) c (blockBytes (keystream s)) := by
  have hlen := length_zipWith_blockBytes h16 (keystream s)
  have hread : readGroup .dout (finish (dataEffect c.length (chunkInput i c s))) =
      dataOut c.length (chunkInput i c s) := quadBlock_blockQuad _
  have hbytes := take_blockBytes_padBlock (hlen ▸ h16)
  rwa [hlen, ← dataOut_chunkInput h16 i, ← hread] at hbytes

/-- One DATA over a chunk c, and what GET DOUT reads after it. -/
theorem doChecked_data {s : State} {c : List Byte} (hc : 1 ≤ c.length ∧ c.length ≤ 16)
    (hp : s.phase = .aad ∨ s.phase = .data) (hdcl : s.dcl = false)
    (hle : s.dbytes.toNat + c.length ≤ 2 ^ 36 - 32) :
    ∃ t, doChecked (.data c.length) (writeGroup .din (padBlock c) s) = .ok t ∧ TakesData s [c] t ∧
      (blockBytes (readGroup .dout t)).take c.length =
        List.zipWith (· ^^^ ·) c (blockBytes (keystream s)) ∧
      (c.length = 16 → t.dcl = false) := by
  have hwf : WellFormed (.data c.length) := show c.length < 256 by omega
  refine ⟨finish (dataEffect c.length (chunkInput (.data c.length) c s)),
    doChecked_chunk_of_accepted hwf (check_data_eq_none.mpr ⟨hc, ⟨hp, hdcl⟩, hle⟩) rfl, ?_,
    readGroup_dout_chunkInput hc.2 _ s, fun hfull => ?_⟩
  · exact {
      message := rfl
      phase := .inr rfl
      acc := by
        rw [finish_acc, dataEffect_acc]
        exact fold_dataCiphertext_chunkInput hc.2 _ s
      abytes := rfl
      dbytes := by
        rw [List.flatten_singleton]
        exact toNat_countBytes (c := s.dbytes) (by omega) }
  · rw [hfull]
    exact closedAfter_of_full hdcl

/-- The DATA commands over blocks are all accepted, in phase AAD or DATA with an open section and within the
limit, and give the source's counter-mode output (R144 to R146). -/
theorem feedData_ok {cs : List (List Byte)} (hcs : IsBlocks cs) {s : State}
    (hp : s.phase = .aad ∨ s.phase = .data) (hdcl : cs ≠ [] → s.dcl = false)
    (hle : s.dbytes.toNat + cs.flatten.length ≤ 2 ^ 36 - 32) :
    ∃ t, feedData cs s = .ok ((outputBlocks s cs).flatten, t) ∧ TakesData s cs t := by
  induction cs generalizing s with
  | nil => exact ⟨s, rfl, rfl, hp, by rw [foldedBlocks_nil]; rfl, rfl, rfl⟩
  | cons c cs ih =>
    obtain ⟨hc, hfull, hrest⟩ := hcs
    rw [List.flatten_cons, List.length_append] at hle
    obtain ⟨t, hdo, ht, hout, hopen⟩ := doChecked_data hc hp (hdcl (List.cons_ne_nil c cs)) (by omega)
    have hbytes := ht.dbytes_eq
    obtain ⟨u, hfeed, hu⟩ := ih hrest ht.phase (fun hne => hopen (hfull hne)) (by omega)
    refine ⟨u, ?_, ht.cons hfull hu⟩
    rw [feedData, hdo, ht.outputBlocks_cons hfull, List.flatten_cons, ← hout]
    simp only [hfeed]

end Sys2Proof.Machine
end

section
/-! The host's Encrypt and Decrypt (43_aead.md R171, R172) against the source's whole-message functions: Init,
everything before the tag, the tag, and the round trip (R170). -/

namespace Sys2Proof.Machine

/-! ### Init: KEYSET, the NONCE commands and START (R171) -/

/-- What NONCE does not write of the message and of its AAD and data sections. -/
def beforeNonce (s : State) : Message × Counter × Counter × Bool × Bool :=
  (messageOf s, s.abytes, s.dbytes, s.acl, s.dcl)

theorem feedChunks_nonce_keeps {cs : List (List Byte)} (hcs : IsBlocks cs) {s t : State}
    (h : feedChunks .nonce cs s = .ok t) : beforeNonce t = beforeNonce s := by
  induction cs generalizing s with
  | nil => cases h; rfl
  | cons c cs ih =>
    obtain ⟨⟨-, h16⟩, -, hrest⟩ := hcs
    rw [feedChunks] at h
    split at h
    · cases h
    · next u hdo =>
      have hwf : WellFormed (.nonce c.length) := show c.length < 256 by omega
      obtain rfl := doChecked_chunk_ok hwf hdo
      exact (ih hrest h :)

/-- START writes J0 and DIR of the message, and nothing of its AAD and data sections (R143). -/
theorem doChecked_start_keeps {d : Direction} {s t : State} (h : doChecked (.start 0 d) s = .ok t) :
    messageOf t = { messageOf s with j0 := t.j0, dir := t.dir } ∧ t.abytes = s.abytes ∧
      t.dbytes = s.dbytes ∧ t.acl = s.acl ∧ t.dcl = s.dcl := by
  have hwf : WellFormed (.start 0 d) := show 0 < 256 by decide
  obtain ⟨-, rfl⟩ := doChecked_ok hwf h
  exact ⟨rfl, rfl, rfl, rfl, rfl⟩

theorem writeGroup_key (b : Block) (s : State) :
    writeGroup .key b s = { s with key := blockQuad b } := rfl

/-- BLK KEY, key ; DO KEYSET opens an empty context under the key (R108). -/
theorem doChecked_keyset (key : Block) (s : State) :
    ∃ t, doChecked (.keyset 16) (writeGroup .key key s) = .ok t ∧
      beforeNonce t = (⟨s.tables, keySchedule s.tables key, subkey s.tables key, 0, .encrypt, zeroQuad⟩,
        0, 0, false, false) ∧
      t.busy = false ∧ t.phase = .nonce ∧ t.ncl = false ∧ t.nbytes = 0 ∧ t.acc = 0 := by
  refine ⟨_, doChecked_of_accepted (by decide) (check_keyset_eq_none.mpr rfl) rfl, ?_,
    rfl, rfl, rfl, rfl, rfl⟩
  simp [beforeNonce, messageOf, effectOf, keyBlock, writeGroup_key, subkey]

/-- t is in phase AAD of the message of a key and a nonce, before its first byte (R143). -/
structure Opened (tb : Tables) (key : Block) (nonce : List Byte) (d : Direction) (t : State) : Prop where
  message : messageOf t = messageFor tb key nonce d
  phase : t.phase = .aad
  acc : t.acc = 0
  abytes : t.abytes = 0
  dbytes : t.dbytes = 0
  acl : t.acl = false
  dcl : t.dcl = false

theorem openMessage_ok {nonce : List Byte} (h1 : 1 ≤ nonce.length) (hle : nonce.length ≤ 2 ^ 61 - 1)
    (key : Block) (d : Direction) (s : State) :
    ∃ t, openMessage key nonce d s = .ok t ∧ Opened s.tables key nonce d t := by
  obtain ⟨t, hkey, ht, hb, hp, hncl, hz, hacc⟩ := doChecked_keyset key s
  obtain ⟨u, v, hfeed, hstart, hj0, hvacc, -, hdir, hvp⟩ :=
    nonceCommandsDeriveJ0 t nonce d hb hp hncl hz hacc h1 hle
  have hu := (feedChunks_nonce_keeps (isBlocks_chunks nonce) hfeed).trans ht
  obtain ⟨hmessage, habytes, hdbytes, hacl, hdcl⟩ := doChecked_start_keeps hstart
  simp only [beforeNonce, Prod.mk.injEq] at ht hu
  obtain ⟨hum, hua, hud, huacl, hudcl⟩ := hu
  have hh : t.h = subkey s.tables key := congrArg Message.h ht.1
  refine ⟨v, by rw [openMessage, hkey]; simp only [hfeed, hstart], ?_⟩
  exact {
    message := by rw [hmessage, hum, hj0, hdir, hh]; rfl
    phase := hvp
    acc := hvacc
    abytes := habytes.trans hua
    dbytes := hdbytes.trans hud
    acl := hacl.trans huacl
    dcl := hdcl.trans hudcl }

/-! ### Everything before the tag (R171, R172) -/

/-- The limits of R9, with the nonce of at least one byte that START asks for (R143). -/
structure WithinLimits (nonce aad text : List Byte) : Prop where
  nonce_pos : 1 ≤ nonce.length
  nonce_le : nonce.length ≤ 2 ^ 61 - 1
  aad_le : aad.length ≤ 2 ^ 61 - 1
  text_le : text.length ≤ 2 ^ 36 - 32

/-- The ciphertext blocks of a text that the message encrypts, or decrypts (R125). -/
def ciphertextChunks (tb : Tables) (key : Block) (nonce : List Byte) (d : Direction) (text : List Byte) :
    List (List Byte) :=
  match d with
  | .encrypt => messageChunks tb key nonce text
  | .decrypt => chunks text

/-- t has taken the whole message and stands before its tag (R162). -/
structure Processed (tb : Tables) (key : Block) (nonce aad text : List Byte) (d : Direction) (t : State) :
    Prop where
  message : messageOf t = messageFor tb key nonce d
  phase : t.phase = .aad ∨ t.phase = .data
  tag : fullTag t = messageTag tb key nonce aad (ciphertextChunks tb key nonce d text) text.length

theorem Processed.dir_eq {tb : Tables} {key : Block} {nonce aad text : List Byte} {d : Direction}
    {t : State} (h : Processed tb key nonce aad text d t) : t.dir = d :=
  congrArg Message.dir h.message

theorem Processed.tagout_eq {tb : Tables} {key : Block} {nonce aad text : List Byte} {d : Direction}
    {t : State} (h : Processed tb key nonce aad text d t) : t.tagout = zeroQuad :=
  congrArg Message.tagout h.message

/-- The first data block of a message has the index 1 (R145). -/
theorem outputBlocks_of_first {tb : Tables} {key : Block} {nonce : List Byte} {d : Direction} {s : State}
    (hm : messageOf s = messageFor tb key nonce d) (hz : s.dbytes = 0) (text : List Byte) :
    outputBlocks s (chunks text) = messageChunks tb key nonce text := by
  obtain ⟨htables, hrk, -, hj0, -⟩ := Message.mk.inj hm
  rw [outputBlocks, htables, hrk, hj0, hz]
  rfl

theorem foldedBlocks_of_first {tb : Tables} {key : Block} {nonce : List Byte} {d : Direction} {s : State}
    (hm : messageOf s = messageFor tb key nonce d) (hz : s.dbytes = 0) (text : List Byte) :
    foldedBlocks s (chunks text) = ciphertextChunks tb key nonce d text := by
  have hdir : s.dir = d := congrArg Message.dir hm
  rw [foldedBlocks, hdir, outputBlocks_of_first hm hz]
  cases d <;> rfl

/-- The AAD and DATA commands of a message that has just been opened fold what R125 names. -/
theorem processed_of_opened {tb : Tables} {key : Block} {nonce aad text : List Byte} {d : Direction}
    {s t u : State} (hs : Opened tb key nonce d s) (ht : TakesAad s (chunks aad) t)
    (hu : TakesData t (chunks text) u) : Processed tb key nonce aad text d u where
  message := (hu.message.trans ht.message).trans hs.message
  phase := hu.phase
  tag := by
    have htm := ht.message.trans hs.message
    have hfolded := foldedBlocks_of_first htm (ht.dbytes.trans hs.dbytes) text
    have habytes : u.abytes.toNat = aad.length := by
      rw [hu.abytes, ht.abytes, hs.abytes, flatten_chunks]
      exact Nat.zero_add _
    have hdbytes : u.dbytes.toNat = text.length := by
      rw [hu.dbytes, ht.dbytes, hs.dbytes, flatten_chunks]
      exact Nat.zero_add _
    obtain ⟨-, -, hsh, -⟩ := Message.mk.inj hs.message
    obtain ⟨-, -, hth, -⟩ := Message.mk.inj htm
    obtain ⟨htables, hrk, huh, hj0, -⟩ := Message.mk.inj (hu.message.trans htm)
    rw [fullTag, finalAcc, htables, hrk, huh, hj0, habytes, hdbytes, hu.acc, hfolded, hth, ht.acc,
      hs.acc, hsh]
    rfl

/-- Within the limits, everything before the tag runs without an error and gives the source's counter-mode
text (R144, R145). -/
theorem processMessage_ok {nonce aad text : List Byte} (h : WithinLimits nonce aad text) (key : Block)
    (d : Direction) (s : State) :
    ∃ t, processMessage key nonce aad text d s =
        .ok ((messageChunks s.tables key nonce text).flatten, t) ∧
      Processed s.tables key nonce aad text d t := by
  obtain ⟨t, hopen, ht⟩ := openMessage_ok h.nonce_pos h.nonce_le key d s
  have haad : t.abytes.toNat + (chunks aad).flatten.length ≤ 2 ^ 61 - 1 := by
    rw [ht.abytes, flatten_chunks]
    exact (Nat.zero_add _).trans_le h.aad_le
  obtain ⟨u, hfeed, hu⟩ := feedChunks_aad (isBlocks_chunks aad) ht.phase (fun _ => ht.acl) haad
  have hzero := hu.dbytes.trans ht.dbytes
  have htext : u.dbytes.toNat + (chunks text).flatten.length ≤ 2 ^ 36 - 32 := by
    rw [hzero, flatten_chunks]
    exact (Nat.zero_add _).trans_le h.text_le
  obtain ⟨v, hdata, hv⟩ := feedData_ok (isBlocks_chunks text) (.inl hu.phase)
    (fun _ => hu.dcl.trans ht.dcl) htext
  refine ⟨v, ?_, processed_of_opened ht hu hv⟩
  rw [processMessage, hopen]
  simp only [hfeed, hdata, outputBlocks_of_first (hu.message.trans ht.message) hzero]

/-! ### The tag (R163 to R165) -/

theorem doChecked_final {n : Nat} (hn : 1 ≤ n ∧ n ≤ 16) {s : State}
    (hp : s.phase = .aad ∨ s.phase = .data) (hd : s.dir = .encrypt) :
    ∃ t, doChecked (.final n) s = .ok t ∧ readGroup .tagout t = firstBytes n (fullTag s) ∧
      t.phase = .finalized ∧ t.err = .none ∧ t.busy = false :=
  ⟨_, doChecked_of_accepted (show n < 256 by omega) (check_final_eq_none.mpr ⟨hn, hp, hd⟩) rfl,
    quadBlock_blockQuad _, rfl, rfl, rfl⟩

/-- A FINAL or VERIFY with a tagLen outside 1 to 16 ends the message with a USAGE_ERROR (R165, D12). -/
theorem doChecked_of_bad_tagLen {i : Instr} {n : Nat} (hi : i = .final n ∨ i = .verify n)
    (hn : ¬(1 ≤ n ∧ n ≤ 16)) {s : State} (hp : s.phase = .aad ∨ s.phase = .data) :
    ∃ t, doChecked i s = .error (.engineError .usageError t) ∧ t.phase = .failed ∧
      t.tagout = s.tagout ∧ t.busy = false := by
  have hdo : doChecked i s = .error (.engineError .usageError
      { failMessage .usageError (issue (commandWord i) s) with busy := false }) := by
    rcases hi with rfl | rfl
    · exact doChecked_of_lenError (fun _ => Instr.noConfusion) (by simp [opcodeOf])
        (lenError_final_eq_none.not.mpr hn) s
    · exact doChecked_of_lenError (fun _ => Instr.noConfusion) (by simp [opcodeOf])
        (lenError_verify_eq_none.not.mpr hn) s
  refine ⟨_, hdo, ?_, rfl, rfl⟩
  rcases hp with hp | hp <;> simp [failMessage, hp]

/-- Settles O55: the whole message is processed, and then FINAL gives its tag or refuses the tagLen. -/
theorem encryptSequenceComputesTheMessage : Obligations.EncryptSequenceComputesTheMessage := by
  intro s key nonce aad plaintext tagLen _ h1 hnonce haad htext
  obtain ⟨t, hprocess, ht⟩ := processMessage_ok ⟨h1, hnonce, haad, htext⟩ key .encrypt s
  refine ⟨fun hlo hhi => ?_, fun hbad => ?_⟩
  · obtain ⟨u, hfinal, htag, hu⟩ := doChecked_final ⟨hlo, hhi⟩ ht.phase ht.dir_eq
    refine ⟨u, ?_, hu⟩
    rw [encryptMessage, hprocess]
    simp only [hfinal, htag, take_blockBytes_firstBytes, ht.tag]
    rfl
  · obtain ⟨u, hfinal, hphase, htagout, hbusy⟩ := doChecked_of_bad_tagLen (.inl rfl) hbad ht.phase
    refine ⟨u, ?_, hphase, htagout.trans ht.tagout_eq, hbusy⟩
    rw [encryptMessage, hprocess]
    simp only [hfinal]

/-! ### Decrypt of Encrypt (R170) -/

/-- Counter mode keeps the blocks and their lengths. -/
theorem isBlocks_ctrChunks (tb : Tables) (rk : Vector Word 32) (j0 : Block) (n : Nat)
    {cs : List (List Byte)} (h : IsBlocks cs) :
    IsBlocks (ctrChunks tb rk j0 n cs) ∧
      (ctrChunks tb rk j0 n cs).flatten.length = cs.flatten.length := by
  induction cs generalizing n with
  | nil => exact ⟨trivial, rfl⟩
  | cons c cs ih =>
    obtain ⟨hc, hfull, hrest⟩ := h
    obtain ⟨hblocks, hlen⟩ := ih (n + 1) hrest
    have hhead := length_zipWith_blockBytes hc.2 (encrypt tb rk (ctr j0 n))
    refine ⟨⟨hhead ▸ hc, fun hne => hhead.trans (hfull fun hnil => hne ?_), hblocks⟩, ?_⟩
    · rw [hnil]; rfl
    · rw [ctrChunks, List.flatten_cons, List.length_append, hhead, hlen, List.flatten_cons,
        List.length_append]

/-- XOR with the same keystream bytes twice gives back the chunk. -/
theorem zipWith_xor_cancel {c ks : List Byte} (h : c.length ≤ ks.length) :
    List.zipWith (· ^^^ ·) (List.zipWith (· ^^^ ·) c ks) ks = c := by
  refine List.ext_getElem (by simpa using h) fun k _ _ => ?_
  rw [List.getElem_zipWith, List.getElem_zipWith, BitVec.xor_assoc, BitVec.xor_self, BitVec.xor_zero]

/-- Counter mode is its own inverse. -/
theorem ctrChunks_ctrChunks (tb : Tables) (rk : Vector Word 32) (j0 : Block) (n : Nat)
    {cs : List (List Byte)} (h : IsBlocks cs) :
    ctrChunks tb rk j0 n (ctrChunks tb rk j0 n cs) = cs := by
  induction cs generalizing n with
  | nil => rfl
  | cons c cs ih =>
    obtain ⟨⟨-, h16⟩, -, hrest⟩ := h
    rw [ctrChunks, ctrChunks, ih (n + 1) hrest, zipWith_xor_cancel (by simpa using h16)]

/-- The ciphertext's own chunks are those that were encrypted. -/
theorem chunks_flatten_messageChunks (tb : Tables) (key : Block) (nonce text : List Byte) :
    chunks (messageChunks tb key nonce text).flatten = messageChunks tb key nonce text :=
  chunks_flatten (isBlocks_ctrChunks _ _ _ _ (isBlocks_chunks text)).1

theorem length_flatten_messageChunks (tb : Tables) (key : Block) (nonce text : List Byte) :
    (messageChunks tb key nonce text).flatten.length = text.length := by
  rw [messageChunks, (isBlocks_ctrChunks _ _ _ _ (isBlocks_chunks text)).2, flatten_chunks]

theorem messageChunks_flatten_messageChunks (tb : Tables) (key : Block) (nonce text : List Byte) :
    (messageChunks tb key nonce (messageChunks tb key nonce text).flatten).flatten = text := by
  rw [messageChunks, chunks_flatten_messageChunks, messageChunks,
    ctrChunks_ctrChunks _ _ _ _ (isBlocks_chunks text), flatten_chunks]

/-- The full tag of the ciphertext on the way back is that of the way out. -/
theorem messageTag_decrypt (tb : Tables) (key : Block) (nonce aad text : List Byte) :
    messageTag tb key nonce aad
        (ciphertextChunks tb key nonce .decrypt (messageChunks tb key nonce text).flatten)
        (messageChunks tb key nonce text).flatten.length =
      messageTag tb key nonce aad (messageChunks tb key nonce text) text.length := by
  rw [ciphertextChunks, chunks_flatten_messageChunks, length_flatten_messageChunks]

theorem writeGroup_tagin (b : Block) (s : State) :
    writeGroup .tagin b s = { s with tagin := blockQuad b } := rfl

/-- What VERIFY's effect sees after BLK TAGIN, tag (R79, R203). -/
def tagInput (n : Nat) (tag : List Byte) (s : State) : State :=
  { s with
    tagin := blockQuad (padBlock tag), latch := encode (.verify n), busy := true, err := .none }

theorem tagsMatch_tagInput {n : Nat} {tag : List Byte} {s : State} :
    tagsMatch n (tagInput n tag s) = true ↔
      firstBytes n (fullTag s) = firstBytes n (padBlock tag) := by
  have htag : quadBlock (tagInput n tag s).tagin = padBlock tag := quadBlock_blockQuad _
  have hfull : fullTag (tagInput n tag s) = fullTag s := rfl
  rw [tagsMatch_eq_true, htag, hfull]

theorem doCommand_verify {n : Nat} (hn : 1 ≤ n ∧ n ≤ 16) {s : State}
    (hp : s.phase = .aad ∨ s.phase = .data) (hd : s.dir = .decrypt) (tag : List Byte) :
    doCommand (.verify n) (writeGroup .tagin (padBlock tag) s) =
      .next (finish (verifyEffect n (tagInput n tag s))) := by
  have hwf : WellFormed (.verify n) := show n < 256 by omega
  rw [writeGroup_tagin]
  exact doCommand_of_accepted hwf
    ((check_setTagin ..).trans (check_verify_eq_none.mpr ⟨hn, hp, hd⟩))

/-- BLK TAGIN, tag ; DO VERIFY, where the tag is the message's. -/
theorem doChecked_verify_of_match {n : Nat} (hn : 1 ≤ n ∧ n ≤ 16) {s : State}
    (hp : s.phase = .aad ∨ s.phase = .data) (hd : s.dir = .decrypt) {tag : List Byte}
    (htag : firstBytes n (fullTag s) = firstBytes n (padBlock tag)) :
    ∃ t, doChecked (.verify n) (writeGroup .tagin (padBlock tag) s) = .ok t := by
  refine ⟨finish (verifyEffect n (tagInput n tag s)), ?_⟩
  rw [doChecked, doCommand_verify hn hp hd]
  simp [tagsMatch_tagInput.mpr htag]

/-- BLK TAGIN, tag ; DO VERIFY, where it is not. -/
theorem doChecked_verify_of_mismatch {n : Nat} (hn : 1 ≤ n ∧ n ≤ 16) {s : State}
    (hp : s.phase = .aad ∨ s.phase = .data) (hd : s.dir = .decrypt) {tag : List Byte}
    (htag : firstBytes n (fullTag s) ≠ firstBytes n (padBlock tag)) :
    ∃ t, doChecked (.verify n) (writeGroup .tagin (padBlock tag) s) =
        .error (.engineError .authenticationFailure t) ∧
      t.dout = zeroQuad ∧ t.tagout = zeroQuad ∧ t.phase = .finalized := by
  have hno : tagsMatch n (tagInput n tag s) = false :=
    Bool.eq_false_iff.mpr fun h => htag (tagsMatch_tagInput.mp h)
  refine ⟨finish (verifyEffect n (tagInput n tag s)), ?_⟩
  rw [doChecked, doCommand_verify hn hp hd]
  simp [hno]

/-- Settles O56: both operations process the same ciphertext, so VERIFY finds the tag that FINAL gave. -/
theorem decryptOfEncryptIsThePlaintext : Obligations.DecryptOfEncryptIsThePlaintext := by
  intro s s' key nonce aad plaintext tagLen hb _ htables h1 hnonce haad htext
  refine ⟨fun hlo hhi => ?_, fun hbad c tag hc => ?_⟩
  · obtain ⟨hencrypt, -⟩ := encryptSequenceComputesTheMessage s key nonce aad plaintext tagLen hb h1
      hnonce haad htext
    obtain ⟨u, henc, -⟩ := hencrypt hlo hhi
    have hlen := length_flatten_messageChunks s.tables key nonce plaintext
    obtain ⟨t, hprocess, ht⟩ := processMessage_ok ⟨h1, hnonce, haad, hlen ▸ htext⟩ key .decrypt s'
    rw [htables, messageChunks_flatten_messageChunks] at hprocess
    have htag := ht.tag
    rw [htables, messageTag_decrypt] at htag
    obtain ⟨u', hverify⟩ := doChecked_verify_of_match ⟨hlo, hhi⟩ ht.phase ht.dir_eq
      (tag := (blockBytes (fullTag t)).take tagLen)
      (by rw [padBlock_take_blockBytes, firstBytes_firstBytes])
    refine ⟨_, _, u, u', henc, hlen, by simpa using hhi, ?_⟩
    rw [decryptMessage, hprocess, ← htag]
    simp only [hverify]
  · obtain ⟨t, hprocess, ht⟩ := processMessage_ok ⟨h1, hnonce, haad, hc⟩ key .decrypt s
    obtain ⟨u, hverify, hphase, -, hbusy⟩ := doChecked_of_bad_tagLen (.inr rfl) hbad
      (s := writeGroup .tagin (padBlock tag) t) ht.phase
    refine ⟨u, ?_, hphase, hbusy⟩
    rw [decryptMessage, hprocess]
    simp only [hverify]

/-! ### Any other tag (R164, R170) -/

/-- What a Decrypt that succeeds has done: the message was processed, and VERIFY found the tag. -/
theorem decryptMessage_ok {key : Block} {nonce aad c tag text : List Byte} {n : Nat} {s u : State}
    (h : decryptMessage key nonce aad c tag n s = .ok (text, u)) :
    ∃ t, processMessage key nonce aad c .decrypt s = .ok (text, t) ∧
      doChecked (.verify n) (writeGroup .tagin (padBlock tag) t) = .ok u := by
  rw [decryptMessage] at h
  split at h
  · cases h
  · next text' t hprocess =>
    split at h
    · cases h
    · next u' hverify =>
      cases h
      exact ⟨t, hprocess, hverify⟩

/-- A VERIFY without an error was permitted, and its tag is the message's. -/
theorem doChecked_verify_ok {n : Nat} (hn : 1 ≤ n ∧ n ≤ 16) {s u : State} {tag : List Byte}
    (h : doChecked (.verify n) (writeGroup .tagin (padBlock tag) s) = .ok u) :
    (s.phase = .aad ∨ s.phase = .data) ∧ s.dir = .decrypt ∧
      firstBytes n (fullTag s) = firstBytes n (padBlock tag) := by
  have hwf : WellFormed (.verify n) := show n < 256 by omega
  rw [writeGroup_tagin] at h
  obtain ⟨hc, -⟩ := doChecked_ok hwf h
  obtain ⟨-, hp, hd⟩ := check_verify_eq_none.mp ((check_setTagin ..).symm.trans hc)
  refine ⟨hp, hd, ?_⟩
  by_contra hdiff
  obtain ⟨v, hv, -⟩ := doChecked_verify_of_mismatch hn hp hd hdiff
  rw [writeGroup_tagin, h] at hv
  cases hv

/-- Padding tells strings of one length apart. -/
theorem eq_of_padBlock_eq {a b : List Byte} (hlen : a.length = b.length) (h16 : b.length ≤ 16)
    (h : padBlock a = padBlock b) : a = b := by
  calc a = (blockBytes (padBlock a)).take a.length := (take_blockBytes_padBlock (hlen ▸ h16)).symm
    _ = (blockBytes (padBlock b)).take b.length := by rw [h, hlen]
    _ = b := take_blockBytes_padBlock h16

/-- Settles O57: VERIFY was accepted, so the tag is the message's, and another tag of its length is not. -/
theorem anyOtherTagIsRefused : Obligations.AnyOtherTagIsRefused := by
  intro s u key nonce aad ciphertext plaintext tag tag' tagLen _ hlen hlen' h1 h16 hne h
  obtain ⟨t, hprocess, hverify⟩ := decryptMessage_ok h
  obtain ⟨hp, hd, htag⟩ := doChecked_verify_ok ⟨h1, h16⟩ hverify
  have hdiff : firstBytes tagLen (fullTag t) ≠ firstBytes tagLen (padBlock tag') := fun htag' => by
    have hpad : padBlock tag = padBlock tag' := by
      rw [← firstBytes_padBlock tag, ← firstBytes_padBlock tag', hlen, hlen', ← htag, htag']
    exact hne (eq_of_padBlock_eq (hlen.trans hlen'.symm) (hlen' ▸ h16) hpad).symm
  obtain ⟨v, hv, hzero⟩ := doChecked_verify_of_mismatch ⟨h1, h16⟩ hp hd hdiff
  refine ⟨v, ?_, hzero⟩
  rw [decryptMessage, hprocess]
  simp only [hv]

end Sys2Proof.Machine
end

section
/-! The exceptions of 60_exceptions.md: where the step stops (R208), the order of the checks over a command
word (R201), what a rejection changes (R202), the result that ERR reports (R203), and what leads on from
FAILED and FINALIZED (R205). -/

namespace Sys2Proof.Machine

/-! ### Where the step stops (R208) -/

/-- A well-formed write to the window while BUSY = 1 is a HazardViolation (R224). -/
theorem serve_of_hazard {addr n : Nat} {v : Word} {s : State}
    (ht : touchesWindow (.write addr n v) s = true)
    (hw : wellFormedAccess (.write addr n v) s = true) (hb : s.busy = true) :
    serve (.write addr n v) s = .fault (.hazardViolation (.write addr n v)) := by
  simp [serve, ht, hw, hb]

theorem serve_write_of_wellFormed {addr n : Nat} {v : Word} {s : State}
    (ht : touchesWindow (.write addr n v) s = true)
    (hw : wellFormedAccess (.write addr n v) s = true) (hb : s.busy = false) :
    serve (.write addr n v) s = .next (writeReg (regAt (addr - s.pBase)) v s) := by
  simp [serve, ht, hw, hb]

/-- Outside the two faults an access keeps the register contract, and is served. -/
theorem serve_outcomes (a : Access) (s : State) :
    (touchesWindow a s = true ∧ wellFormedAccess a s = false ∧ serve a s = .fault (.busError a)) ∨
    ((∃ addr n v, a = .write addr n v) ∧ touchesWindow a s = true ∧ wellFormedAccess a s = true ∧
      s.busy = true ∧ serve a s = .fault (.hazardViolation a)) ∨
    (safeTurn (.host a) s = true ∧ ∃ t, serve a s = .next t) := by
  cases ht : touchesWindow a s with
  | false => exact .inr (.inr ⟨by simp [safeTurn, ht], s, serve_of_not_touching ht⟩)
  | true =>
    cases hw : wellFormedAccess a s with
    | false => exact .inl ⟨rfl, rfl, serve_of_malformed ht hw⟩
    | true =>
      cases a with
      | read addr n =>
        exact .inr (.inr ⟨by simp [safeTurn, hw], _, serve_read_of_wellFormed ht hw⟩)
      | write addr n v =>
        cases hb : s.busy with
        | true => exact .inr (.inl ⟨⟨addr, n, v, rfl⟩, rfl, rfl, rfl, serve_of_hazard ht hw hb⟩)
        | false =>
          exact .inr (.inr ⟨by simp [safeTurn, hw, hb], _, serve_write_of_wellFormed ht hw hb⟩)

/-- The engine's turn always answers a next state. -/
theorem engineTurn_next (s : State) : ∃ t, engineTurn s = .next t := by
  cases hb : s.busy with
  | false => exact ⟨s, by simp [engineTurn, hb]⟩
  | true =>
    obtain ⟨t, ht, -⟩ := complete_next s
    exact ⟨t, by simp [engineTurn, hb, ht]⟩

/-- The next turn, if the agenda has one, keeps the register contract (R53, R224). -/
def SafeNext (s : State) : Prop := ∀ tn rest, s.agenda = tn :: rest → safeTurn tn s = true

theorem safeNext_of_agenda {s : State} {tn : Turn} {rest : List Turn} (h : s.agenda = tn :: rest)
    (hs : safeTurn tn s = true) : SafeNext s := by
  intro tn' rest' h'
  rw [h] at h'
  cases h'
  exact hs

/-- What a step can answer: one of the two faults, on the access that stands next on the agenda, or, where
the next turn keeps the contract, a next state. -/
theorem step_outcomes (s : State) :
    (∃ a rest, s.agenda = .host a :: rest ∧ touchesWindow a s = true ∧
      wellFormedAccess a s = false ∧ step s = .fault (.busError a)) ∨
    (∃ addr n v rest, s.agenda = .host (.write addr n v) :: rest ∧
      touchesWindow (.write addr n v) s = true ∧ wellFormedAccess (.write addr n v) s = true ∧
      s.busy = true ∧ step s = .fault (.hazardViolation (.write addr n v))) ∨
    (SafeNext s ∧ ∃ t, step s = .next t) := by
  cases ha : s.agenda with
  | nil =>
    have hstep : step s = engineTurn s := by rw [step, ha]
    exact .inr (.inr ⟨by simp [SafeNext, ha], hstep ▸ engineTurn_next s⟩)
  | cons tn rest =>
    cases tn with
    | engine =>
      exact .inr (.inr ⟨safeNext_of_agenda ha rfl, step_of_agenda ha ▸ engineTurn_next _⟩)
    | reset => exact .inr (.inr ⟨safeNext_of_agenda ha rfl, _, step_of_agenda ha⟩)
    | host a =>
      rw [step_host ha]
      rcases serve_outcomes a { s with agenda := rest } with
        ⟨ht, hw, hf⟩ | ⟨⟨addr, n, v, rfl⟩, ht, hw, hb, hf⟩ | ⟨hs, hn⟩
      · exact .inl ⟨a, rest, rfl, ht, hw, hf⟩
      · exact .inr (.inl ⟨addr, n, v, rest, rfl, ht, hw, hb, hf⟩)
      · exact .inr (.inr ⟨safeNext_of_agenda ha hs, hn⟩)

/-- Settles O7: the step's three outcomes exclude each other, and each names the turn it comes from. -/
theorem stepStopsOnlyOnABrokenContract : Obligations.StepStopsOnlyOnABrokenContract := by
  intro s
  refine ⟨fun r hr => ?_, fun a => ⟨fun hf => ?_, ?_⟩, fun a => ⟨fun hf => ?_, ?_⟩, fun hn => ?_,
    fun hsafe => ?_⟩
  · rcases step_outcomes s with ⟨_, _, -, -, -, h⟩ | ⟨_, _, _, _, -, -, -, -, h⟩ | ⟨-, _, h⟩ <;>
      cases hr.symm.trans h
  · rcases step_outcomes s with
      ⟨_, rest, ha, ht, hw, h⟩ | ⟨_, _, _, _, -, -, -, -, h⟩ | ⟨-, _, h⟩ <;>
      cases hf.symm.trans h
    exact ⟨rest, ha, ht, hw⟩
  · rintro ⟨rest, ha, ht, hw⟩
    exact (step_host ha).trans (serve_of_malformed ht hw)
  · rcases step_outcomes s with
      ⟨_, _, -, -, -, h⟩ | ⟨addr, n, v, rest, ha, ht, hw, hb, h⟩ | ⟨-, _, h⟩ <;>
      cases hf.symm.trans h
    exact ⟨rest, addr, n, v, ha, rfl, ht, hw, hb⟩
  · rintro ⟨rest, addr, n, v, ha, rfl, ht, hw, hb⟩
    exact (step_host ha).trans (serve_of_hazard ht hw hb)
  · obtain ⟨t, ht⟩ := hn
    rcases step_outcomes s with ⟨_, _, -, -, -, h⟩ | ⟨_, _, _, _, -, -, -, -, h⟩ | ⟨hsafe, -⟩
    · cases ht.symm.trans h
    · cases ht.symm.trans h
    · exact hsafe
  · rcases step_outcomes s with
      ⟨a, rest, ha, ht, hw, -⟩ | ⟨addr, n, v, rest, ha, ht, hw, hb, -⟩ | ⟨-, hn⟩
    · have hs := hsafe _ _ ha
      simp [safeTurn, ht, hw] at hs
    · have hs := hsafe _ _ ha
      simp [safeTurn, ht, hb] at hs
    · exact hn

/-! ### The order of the checks (R201) -/

/-- R201's steps 1 and 2 are the decoder's: an illegal word is a USAGE_ERROR (R80). -/
theorem wordCheck_of_decode_error {w : Word} {e : DecodeError} (h : decode w = .error e) (s : State) :
    wordCheck w s = some .usageError := by
  rw [wordCheck]
  by_cases hform : w.toNat / 131072 ≠ 0 ∨ ¬(1 ≤ w.toNat % 256 ∧ w.toNat % 256 ≤ 10)
  · exact if_pos hform
  by_cases hdir : w.toNat / 65536 % 2 = 1 ∧ w.toNat % 256 ≠ 3
  · exact (if_neg hform).trans (if_pos hdir)
  · obtain ⟨i, hi⟩ := exists_decode_of_legal (w := w) (by omega) (by omega) (by omega) (by omega)
    cases h.symm.trans hi

/-- R201's steps 3 to 6 in their order: the LEN, then the phase, then the byte limit. -/
theorem check_eq_or (i : Instr) (s : State) :
    check i s = (lenError i).or (if permitted i s = false then some .usageError
      else if overLimit i s = true then some .limitExceeded else none) := by
  unfold check
  cases lenError i <;> cases permitted i s <;> rfl

/-- R201's steps 3 to 6 over a word that decodes are the checks of its command. -/
theorem wordCheck_of_decode_ok {w : Word} {i : Instr} (h : decode w = .ok i) (s : State) :
    wordCheck w s = check i s := by
  obtain ⟨hrsv, hop, hlen, hdir⟩ := decode_eq_ok_iff.mp h
  rw [rsvField_eq_zero_iff] at hrsv
  have nop : w.toNat % 256 = (opcodeOf i).toNat := by rw [← opField_toNat, hop]
  have nlen : w.toNat / 256 % 256 = i.len := by rw [← lenField_eq, hlen]
  have ndir : w.toNat / 65536 % 2 = (dirOf i).toNat := by rw [← dirField_toNat, hdir]
  simp only [wordCheck, hrsv, nop, nlen, ndir, permittedTable_opcodeOf, check_eq_or]
  cases i with
  | keyset n =>
    by_cases hn : n = 16 <;> simp [opcodeOf, dirOf, Instr.len, lenError, permitted, overLimit, hn]
  | start n d | ecb n | gmul n | clear n =>
    by_cases hn : n = 0 <;> simp [opcodeOf, dirOf, Instr.len, lenError, overLimit, hn]
  | nonce n | aad n | data n =>
    by_cases hn : 1 ≤ n ∧ n ≤ 16 <;>
      simp [opcodeOf, dirOf, Instr.len, lenError, overLimit_nonce, overLimit_aad, overLimit_data, hn]
  | final n | verify n =>
    by_cases hn : 1 ≤ n ∧ n ≤ 16 <;> simp [opcodeOf, dirOf, Instr.len, lenError, overLimit, hn]

/-! ### What ERR reports (R203) -/

/-- An accepted command other than VERIFY keeps the NONE that ERR was set to, or sets it so itself. -/
theorem effectOf_err {i : Instr} {s : State} (hi : ∀ n, i ≠ .verify n) (hs : s.err = .none) :
    (effectOf i s).err = .none := by
  cases i with
  | verify n => exact absurd rfl (hi n)
  | clear n => rfl
  | _ => exact hs

/-- An accepted command reports NONE or AUTHENTICATION_FAILURE. -/
theorem effectOf_err_cases (i : Instr) {s : State} (hs : s.err = .none) :
    (effectOf i s).err = .none ∨ (effectOf i s).err = .authenticationFailure := by
  cases i with
  | verify n => cases hm : tagsMatch n s <;> simp [effectOf, hm]
  | _ => exact .inl (effectOf_err (fun _ => Instr.noConfusion) hs)

/-- A word that decodes completes with exec's outcome and BUSY clear (R223). -/
theorem complete_of_exec {s t : State} {i : Instr} (hd : decode s.latch = .ok i)
    (h : exec i s = .next t) : complete s = .next (finish t) := by
  rw [complete, hd]
  simp only [h]

/-- Settles O38: an illegal word fails at once, and the checks of a decoded command are exec's own. -/
theorem checksAreMadeInOrder : Obligations.ChecksAreMadeInOrder := by
  intro s
  cases hd : decode s.latch with
  | error d =>
    rw [wordCheck_of_decode_error hd]
    refine ⟨fun e he => ?_, nofun⟩
    cases he
    exact ⟨_, complete_of_decode_error hd, rfl⟩
  | ok i =>
    rw [wordCheck_of_decode_ok hd]
    exact ⟨fun e he => ⟨_, complete_of_exec hd (exec_of_some he), reject_err e s⟩,
      fun hc => ⟨i, _, rfl, hc, complete_of_exec hd (exec_of_none hc), effectOf_err_cases i rfl⟩⟩

/-- The checks do not look at ERR. -/
theorem check_setErr (i : Instr) (s : State) (e : ErrCode) :
    check i { s with err := e } = check i s := by
  cases i <;> rfl

/-- Settles O40: the effect starts from ERR = NONE, and of the accepted commands VERIFY alone writes ERR. -/
theorem errIsTheLastCommandsResult : Obligations.ErrIsTheLastCommandsResult := by
  intro i s t hc h
  obtain rfl : effectOf i { s with err := .none } = t := by
    rw [exec_of_none hc] at h
    exact Host.Outcome.next.inj h
  refine ⟨fun hi => effectOf_err hi rfl, ?_, fun e => ?_⟩
  · rintro n rfl
    have herr : (verifyEffect n { s with err := .none }).err =
        if firstBytes n (fullTag s) = firstBytes n (quadBlock s.tagin) then .none
        else .authenticationFailure := by
      rw [verifyEffect_err]
      exact if_congr tagsMatch_eq_true rfl rfl
    rw [effectOf, herr]
    split <;> next hsame => simp [hsame]
  · exact exec_of_none ((check_setErr i s e).trans hc)

/-! ### What a rejection changes (R202) -/

theorem inMessage_eq_true {p : Phase} :
    inMessage p = true ↔ p = .nonce ∨ p = .aad ∨ p = .data ∨ p = .finalized := by
  cases p <;> decide

/-- A KEYSET that fails its checks has a wrong LEN (R200). -/
theorem check_keyset_eq_some {n : Nat} {s : State} {e : ErrCode} (h : check (.keyset n) s = some e) :
    e = .invalidKeyLength := by
  rcases check_codes h with ⟨he, -⟩ | ⟨-, hk⟩
  · exact he
  · exact absurd rfl (hk n)

/-- Only a KEYSET is rejected with INVALID_KEY_LENGTH (R200). -/
theorem check_ne_invalidKeyLength {i : Instr} {s : State} {e : ErrCode} (hk : ∀ n, i ≠ .keyset n)
    (h : check i s = some e) : e ≠ .invalidKeyLength := by
  rcases check_codes h with ⟨-, n, -, hi⟩ | ⟨rfl | rfl, -⟩
  · exact absurd hi (hk n)
  · decide
  · decide

/-- Settles O39: the code of a failing check decides between R202's two branches. -/
theorem whatARejectionChanges : Obligations.WhatARejectionChanges := by
  intro i s e hc
  rw [exec_of_some hc]
  refine ⟨?_, fun hk => ?_⟩
  · rintro ⟨n, rfl⟩
    obtain rfl := check_keyset_eq_some hc
    exact ⟨rfl, rfl⟩
  · rw [reject_of_ne (check_ne_invalidKeyLength hk hc)]
    simp only [inMessage_eq_true]

/-! ### FAILED and FINALIZED (R168, R205) -/

/-- The commands that are accepted outside a section of a message (R161). -/
theorem accepted_of_stopped {i : Instr} {s : State} (hp : s.phase = .failed ∨ s.phase = .finalized)
    (hc : check i s = none) : i = .keyset 16 ∨ i = .clear 0 ∨ i = .ecb 0 ∨ i = .gmul 0 := by
  obtain ⟨hnonce, haad, hdata⟩ : s.phase ≠ .nonce ∧ s.phase ≠ .aad ∧
      ¬(s.phase = .aad ∨ s.phase = .data) := by
    rcases hp with h | h <;> rw [h] <;> decide
  cases i with
  | keyset n => exact .inl (congrArg _ (check_keyset_eq_none.mp hc))
  | clear n => exact .inr (.inl (congrArg _ (check_clear_eq_none.mp hc)))
  | ecb n => exact .inr (.inr (.inl (congrArg _ (check_ecb_eq_none.mp hc).1)))
  | gmul n => exact .inr (.inr (.inr (congrArg _ (check_gmul_eq_none.mp hc))))
  | nonce n =>
    obtain ⟨-, ⟨hphase, -⟩, -⟩ := check_nonce_eq_none.mp hc
    exact absurd hphase hnonce
  | start n d =>
    obtain ⟨-, hphase, -⟩ := check_start_eq_none.mp hc
    exact absurd hphase hnonce
  | aad n =>
    obtain ⟨-, ⟨hphase, -⟩, -⟩ := check_aad_eq_none.mp hc
    exact absurd hphase haad
  | data n =>
    obtain ⟨-, ⟨hphase, -⟩, -⟩ := check_data_eq_none.mp hc
    exact absurd hphase hdata
  | final n =>
    obtain ⟨-, hphase, -⟩ := check_final_eq_none.mp hc
    exact absurd hphase hdata
  | verify n =>
    obtain ⟨-, hphase, -⟩ := check_verify_eq_none.mp hc
    exact absurd hphase hdata

/-- Settles O43: where a command leads is R160's, and what is not accepted here is rejected to FAILED. -/
theorem noRecoveryButKeysetAndClear : Obligations.NoRecoveryButKeysetAndClear := by
  intro i s t hp h
  obtain ⟨haccepted, -, hrejected⟩ := phaseTransitions i s t h
  refine ⟨accepted_of_stopped hp, ?_, ?_, ?_, ?_, fun hk hclear hecb hgmul => ?_⟩
  · rintro rfl
    exact haccepted (check_keyset_eq_none.mpr rfl)
  · rintro rfl
    exact haccepted (check_clear_zero s)
  · rintro n rfl hn
    obtain ⟨e, he⟩ := Option.ne_none_iff_exists'.mp (check_keyset_eq_none.not.mpr hn)
    obtain rfl := check_keyset_eq_some he
    rw [exec_of_some he] at h
    cases h
    exact ⟨rfl, rfl⟩
  · rintro (rfl | rfl)
    · have hfresh : s.phase ≠ .fresh := by rcases hp with h | h <;> rw [h] <;> decide
      exact haccepted (check_ecb_eq_none.mpr ⟨rfl, hfresh⟩)
    · exact haccepted (check_gmul_eq_none.mpr rfl)
  · have hc : check i s ≠ none := fun hnone =>
      (accepted_of_stopped hp hnone).elim (hk 16) (by simp [hclear, hecb, hgmul])
    obtain ⟨e, he⟩ := Option.ne_none_iff_exists'.mp hc
    obtain ⟨hin, hout⟩ := hrejected e he (check_ne_invalidKeyLength hk he)
    rcases hp with hfailed | hfinalized
    · exact (hout (.inr hfailed)).trans hfailed
    · exact hin (.inr (.inr (.inr hfinalized)))

end Sys2Proof.Machine
end

section
/-! Reset and hazards (70_reset_and_hazards.md): the engine's turn at a command in progress (R223), the
host's accesses meanwhile (R224, R225), what its reads leave to the completion, and the runs from a command's
issue to its completion or its abandonment (R220, R231). -/

namespace Sys2Proof.Machine

/-! ### The engine's turn (R223) -/

/-- The engine moves next, and these turns stay: its turn stands first, or nothing does (log 4). -/
def EngineNext (turns rest : List Turn) : Prop :=
  turns = [] ∧ rest = [] ∨ turns = .engine :: rest

theorem step_of_engineNext {s : State} {rest : List Turn} (h : EngineNext s.agenda rest) :
    step s = engineTurn { s with agenda := rest } := by
  rcases h with ⟨ha, rfl⟩ | ha
  · rw [show { s with agenda := [] } = s by rw [← ha], step, ha]
  · exact step_of_agenda ha

/-- The engine's turn at a command in progress is Complete. -/
theorem step_of_busy {s : State} {rest : List Turn} (hb : s.busy = true)
    (h : EngineNext s.agenda rest) : step s = complete { s with agenda := rest } := by
  rw [step_of_engineNext h]
  exact if_pos hb

/-- Settles O6: Complete decodes the latched word, and every command answers a next state. -/
theorem stepRunsTheDecodedCommand : Obligations.StepRunsTheDecodedCommand := by
  intro s i rest hb hnext hd _
  refine ⟨fun t ht => (step_of_busy hb hnext).trans (complete_of_exec hd ht), fun f hf => ?_,
    fun r hr => ?_⟩
  · cases hf.symm.trans (exec_eq i _)
  · cases hr.symm.trans (exec_eq i _)

/-- Complete leaves the window where it is, and the model's agenda and replies as they are. -/
theorem complete_keeps {s t : State} (h : complete s = .next t) :
    t.pBase = s.pBase ∧ t.agenda = s.agenda ∧ t.replies = s.replies := by
  rcases complete_cases h with ⟨_, _, rfl⟩ | ⟨i, u, _, hx, rfl⟩
  · exact ⟨rfl, rfl, rfl⟩
  · obtain ⟨_, _, _, hbase, hagenda, hreplies, _⟩ := exec_keeps hx
    exact ⟨hbase, hagenda, hreplies⟩

/-- Settles O10: the write to CMD, Complete, and the read of STATUS, one step each. -/
theorem commandLifecycle : Obligations.CommandLifecycle := by
  intro s w rest hb ha
  have hissue := step_write_idle hb (by decide) rfl ha
  obtain ⟨t, ht, hidle⟩ := complete_next
    { s with agenda := .host (.read (windowAddr s 0x04) 4) :: rest, latch := w, busy := true }
  have hcomplete := (step_of_busy (s := { issue w s with
    agenda := .engine :: .host (.read (windowAddr s 0x04) 4) :: rest }) rfl (.inr rfl)).trans ht
  obtain ⟨hbase, hagenda, hreplies⟩ : t.pBase = s.pBase ∧
      t.agenda = .host (.read (windowAddr s 0x04) 4) :: rest ∧ t.replies = s.replies :=
    complete_keeps ht
  have hread : step t = .next { t with agenda := rest, replies := statusWord t :: s.replies } := by
    rw [← hreplies]
    exact step_read_idle (off := 0x04) hidle (by decide) rfl
      (by rw [hagenda, windowAddr, windowAddr, hbase])
  refine ⟨t, ht, hidle, (statusWord_bits t).1.trans hidle, ?_⟩
  exact (run_succ_of_next hissue).trans
    ((run_succ_of_next hcomplete).trans (run_succ_of_next hread))

/-! ### What the host's reads leave to the completion (R225) -/

/-- s after reads of the host: these replies given, this many free values drawn. -/
abbrev withReads (reads : List Word) (drawn : Nat) (s : State) : State :=
  { s with replies := reads, freeCount := drawn }

section

variable (reads : List Word) (drawn : Nat)

theorem check_withReads (i : Instr) (s : State) : check i (withReads reads drawn s) = check i s := by
  cases i <;> rfl

theorem reject_withReads (e : ErrCode) (s : State) :
    reject e (withReads reads drawn s) = withReads reads drawn (reject e s) := by
  cases e <;> rfl

theorem dinBytes_withReads (n : Nat) (s : State) :
    dinBytes n (withReads reads drawn s) = dinBytes n s := rfl

theorem dataOut_withReads (n : Nat) (s : State) :
    dataOut n (withReads reads drawn s) = dataOut n s := rfl

theorem dataCiphertext_withReads (n : Nat) (s : State) :
    dataCiphertext n (withReads reads drawn s) = dataCiphertext n s := rfl

theorem finalAcc_withReads (s : State) : finalAcc (withReads reads drawn s) = finalAcc s := rfl

theorem fullTag_withReads (s : State) : fullTag (withReads reads drawn s) = fullTag s := rfl

theorem tagsMatch_withReads (n : Nat) (s : State) :
    tagsMatch n (withReads reads drawn s) = tagsMatch n s := by
  simp only [tagsMatch, fullTag_withReads]
  rfl

theorem effectOf_withReads (i : Instr) (s : State) :
    effectOf i (withReads reads drawn s) = withReads reads drawn (effectOf i s) := by
  cases i with
  | nonce n => simp only [effectOf, nonceEffect, dinBytes_withReads]
  | aad n => simp only [effectOf, aadEffect, dinBytes_withReads]
  | data n => simp only [effectOf, dataEffect, dataOut_withReads, dataCiphertext_withReads]
  | final n => simp only [effectOf, finalEffect, fullTag_withReads, finalAcc_withReads]
  | verify n => simp only [effectOf, verifyEffect, tagsMatch_withReads, finalAcc_withReads]
  | _ => rfl

theorem exec_withReads {i : Instr} {s t : State} (h : exec i s = .next t) :
    exec i (withReads reads drawn s) = .next (withReads reads drawn t) := by
  rcases exec_cases h with ⟨e, he, rfl⟩ | ⟨hc, rfl⟩
  · rw [exec_of_some ((check_withReads reads drawn i s).trans he), reject_withReads]
  · rw [exec_of_none ((check_withReads reads drawn i s).trans hc), ← effectOf_withReads]

/-- The completion does not see what the host has read. -/
theorem complete_withReads {s t : State} (h : complete s = .next t) :
    complete (withReads reads drawn s) = .next (withReads reads drawn t) := by
  rcases complete_cases h with ⟨e, he, rfl⟩ | ⟨i, u, hd, hx, rfl⟩
  · rw [complete_of_decode_error (s := withReads reads drawn s) he,
      ← reject_eq_failMessage (e := .usageError) (by decide), reject_withReads]
    rfl
  · exact complete_of_exec (s := withReads reads drawn s) hd (exec_withReads reads drawn hx)

end

/-! ### The host's accesses while a command is in progress (R224, R225) -/

/-- Settles O12: the access is a whole word of the window, so BUSY is what it meets. -/
theorem writeWhileBusyIsAHazard : Obligations.WriteWhileBusyIsAHazard := by
  intro s off v rest hoff h4 hb ha
  obtain ⟨ht, hw⟩ := window_word (a := .write (windowAddr s off) 4 v)
    (s := { s with agenda := rest }) hoff h4 rfl rfl
  rw [step_host ha, serve_of_hazard ht hw hb]

theorem readAccess_of_busy {s : State} (hb : s.busy = true) (r : Reg) :
    readAccess r s = withReads (busyValue r s :: s.replies) (s.freeCount + 1) s :=
  if_pos hb

/-- While BUSY = 1 STATUS reads with its bit 0 set. -/
theorem busyValue_status_bit (s : State) : (busyValue .status s).getLsbD 0 = true := by
  simp [busyValue]

/-- Settles O13: the read is one of the host's reads, which the completion does not see. -/
theorem readWhileBusyHasNoSideEffect : Obligations.ReadWhileBusyHasNoSideEffect := by
  intro s off rest hoff h4 hb ha
  obtain ⟨u, hu, -⟩ := complete_next { s with agenda := rest }
  refine ⟨busyValue (regAt off) { s with agenda := rest }, ?_, ?_, u, hu,
    complete_withReads _ _ hu⟩
  · rintro rfl
    exact busyValue_status_bit _
  · have hread := serve_read (s := { s with agenda := rest }) hoff h4
    rw [readAccess_of_busy (s := { s with agenda := rest }) hb] at hread
    exact (step_host ha).trans hread

/-- An access that keeps the register contract is served. -/
theorem serve_of_safeTurn {a : Access} {s : State} (h : safeTurn (.host a) s = true) :
    ∃ t, serve a s = .next t := by
  rcases serve_outcomes a s with ⟨ht, hw, -⟩ | ⟨⟨_, _, _, rfl⟩, ht, -, hb, -⟩ | ⟨-, hn⟩
  · simp [safeTurn, ht, hw] at h
  · simp [safeTurn, ht, hb] at h
  · exact hn

/-- An access that is served while BUSY = 1 is at most a read. -/
theorem serve_of_busy {a : Access} {s t : State} (hb : s.busy = true) (h : serve a s = .next t) :
    ∃ reads drawn, t = withReads reads drawn s := by
  rcases serve_cases h with ⟨-, rfl⟩ | ⟨-, -, ⟨_, _, -, rfl⟩ | ⟨_, _, _, -, hidle, -⟩⟩
  · exact ⟨t.replies, t.freeCount, rfl⟩
  · exact ⟨_, _, readAccess_of_busy hb _⟩
  · cases hb.symm.trans hidle

/-! ### From issue to completion, or to a reset (R220, R231) -/

/-- While a command is in progress, accesses within the register contract are run through, and leave only
what they read: safeTurn looks at P_BASE and BUSY alone. -/
theorem run_accesses_of_busy {before tail : List Turn} {s : State} (hb : s.busy = true)
    (hsafe : ∀ tn ∈ before, ∃ a, tn = .host a ∧ safeTurn tn s = true)
    (ha : s.agenda = before ++ tail) (k : Nat) :
    ∃ reads drawn, Sys2Proof.core.run (before.length + k) s =
      Sys2Proof.core.run k (withReads reads drawn { s with agenda := tail }) := by
  induction before generalizing s with
  | nil =>
    obtain rfl : s.agenda = tail := ha
    exact ⟨s.replies, s.freeCount, by rw [List.length_nil, Nat.zero_add]⟩
  | cons tn before ih =>
    obtain ⟨⟨a, rfl, hs⟩, hothers⟩ := List.forall_mem_cons.mp hsafe
    obtain ⟨t, ht⟩ := serve_of_safeTurn (s := { s with agenda := before ++ tail }) hs
    obtain ⟨r, d, rfl⟩ := serve_of_busy (s := { s with agenda := before ++ tail }) hb ht
    obtain ⟨reads, drawn, hrun⟩ :=
      ih (s := withReads r d { s with agenda := before ++ tail }) hb hothers rfl
    refine ⟨reads, drawn, ?_⟩
    rw [List.length_cons, Nat.add_right_comm, run_succ_of_next ((step_host ha).trans ht), hrun]

/-- Settles O9: the host's accesses leave the command in progress, and then the engine or the reset moves. -/
theorem everyIssuedCommandCompletes : Obligations.EveryIssuedCommandCompletes := by
  intro s before rest hb hsafe
  refine ⟨fun ha => ?_, fun ha => ?_⟩
  · obtain ⟨tail, htail, hnext⟩ : ∃ tail, s.agenda = before ++ tail ∧ EngineNext tail rest := by
      rcases ha with ⟨ha, hrest⟩ | ha
      · exact ⟨[], by rw [ha, List.append_nil], .inl ⟨rfl, hrest⟩⟩
      · exact ⟨_, ha, .inr rfl⟩
    obtain ⟨reads, drawn, hrun⟩ := run_accesses_of_busy hb hsafe htail 1
    obtain ⟨t, ht, hidle⟩ := complete_next { s with agenda := rest }
    have hstep := step_of_busy (s := withReads reads drawn { s with agenda := tail }) hb hnext
    refine ⟨t, reads, drawn, ht, hidle, hrun.trans ?_⟩
    exact run_succ_of_next (hstep.trans (complete_withReads reads drawn ht))
  · obtain ⟨reads, drawn, hrun⟩ := run_accesses_of_busy hb hsafe ha 1
    have hstep := step_of_agenda
      (s := withReads reads drawn { s with agenda := .reset :: rest }) rfl
    exact ⟨_, hrun.trans (run_succ_of_next hstep), rfl, rfl, rfl⟩

end Sys2Proof.Machine
end
